-- ==== Sys2Proof/Word.lean ====
section
/-! DEFINITION. The widths of the block (10_state.md R30, R31): every host register is one byte; `DELAY_US` and the
RSSI sums have 16 bits, `SESSION_ID` and `DEV_ID` 32. Every value is unsigned (00_scope.md R10). -/

namespace Sys2Proof

/-- One byte: a host register, an SPI byte, a packet byte (R10, R31). -/
abbrev Byte := BitVec 8

/-- A 16-bit value: `DELAY_US` (R47) or one RSSI sum (R55). -/
abbrev Half := BitVec 16

/-- A 32-bit value: `SESSION_ID` (R48), `DEV_ID` (R49), `TXID` (R8). -/
abbrev Word := BitVec 32

/-- A 16-byte packet (R126). -/
abbrev Packet := Vector Byte 16

end Sys2Proof
end

