-- ==== Sys2Proof/Config.lean ====
section
/-! DEFINITION. The implementation parameters of 00_scope.md R8, their constraints (R9), and the two values the spec
leaves open (R6: every byte the transceiver answers; R8: `SEQ_MAX_ATTEMPTS`).

A row of R8 is a constant of `Param` when the source states its literal and R9 puts no constraint on it; every other row
is a field of `Config`, which a model run takes as an argument (93_implementation_defined.md section 2; log entry 2). -/

namespace Sys2Proof

namespace Param

/-- `PKT_LEN` (R8). -/
def pktLen : Nat := 16
/-- `FIFO_DEPTH` (R8). -/
def fifoDepth : Nat := 16
/-- `REG_ADDR_MAX` (R8). -/
def regAddrMax : Nat := 0x32
/-- `READ_FLAG` (R8). -/
def readFlag : Byte := 0x40
/-- `WRITE_FLAG` (R8). -/
def writeFlag : Byte := 0x00
/-- `FIFO_ADDR` (R8). -/
def fifoAddr : Byte := 0x05
/-- `ID_ADDR` (R8). -/
def idAddr : Byte := 0x06
/-- `NUM_CHANNELS` (R8). -/
def numChannels : Nat := 12
/-- `SECONDARY_OFFSET` (R8). -/
def secondaryOffset : Byte := 0x23
/-- `BIND_MAGIC[0..4]` (R8; 90_conflicts.md C1). -/
def bindMagic : Vector Byte 5 := #v[0x08, 0xE4, 0xEA, 0x9E, 0x50]
/-- `DATA_HEADER` (R8). -/
def dataHeader : Byte := 0x20
/-- `LED_BIT` (R8): the bit of `FLAGS` that means LED on; no rule of the block reads it alone (R51). -/
def ledBit : Nat := 2
/-- `COMPLETION_CODE` (R8). -/
def completionCode : Byte := 9
/-- `SEQ_ROUNDS` (R8). -/
def seqRounds : Nat := 10
/-- `DATA_CYCLE` (R8): the number of steps of the data cycle, `DATA_1` to `DATA_5`. -/
def dataCycle : Nat := 5

end Param

/-- The two data strategies of R290. -/
inductive DataMode where
  | cycled
  | fixed
deriving DecidableEq, Repr

/-- The parameters of R8 that a build of the block may choose. No access reads or writes them (R99, R353). -/
structure Config where
  /-- `DUMMY_BYTE`: the second MOSI byte of a READ frame (D16). -/
  dummyByte : Byte
  /-- `MODE_REG` (D9). -/
  modeReg : Byte
  /-- `BUSY_MASK` (D9). -/
  busyMask : Byte
  /-- `CHANNEL_REG` (D9). -/
  channelReg : Byte
  /-- `RSSI_REG` (D9). -/
  rssiReg : Byte
  /-- `CODE_REG` (D9). -/
  codeReg : Byte
  /-- `CODE_FEC_VALUE` (D9). -/
  codeFecValue : Byte
  /-- `POWER_REG` (D9). -/
  powerReg : Byte
  /-- `STROBE_SLEEP` (D8). -/
  strobeSleep : Byte
  /-- `STROBE_IDLE` (D8). -/
  strobeIdle : Byte
  /-- `STROBE_STANDBY` (D8). -/
  strobeStandby : Byte
  /-- `STROBE_PLL` (D8). -/
  strobePll : Byte
  /-- `STROBE_RX` (D8). -/
  strobeRx : Byte
  /-- `STROBE_TX` (D8). -/
  strobeTx : Byte
  /-- `STROBE_RST_WRPTR` (D8). -/
  strobeRstWrptr : Byte
  /-- `STROBE_RST_RDPTR` (D8). -/
  strobeRstRdptr : Byte
  /-- `CHANNEL_TABLE[0..11]` (D10); the type gives it exactly `NUM_CHANNELS` entries, as R9 asks. -/
  channelTable : Vector Byte 12
  /-- `RSSI_SAMPLES` (D30). -/
  rssiSamples : Nat
  /-- `TXID` (D11). -/
  txid : Word
  /-- `FLAGS_INDEX` (D27). -/
  flagsIndex : Nat
  /-- `TX_POLL_MAX` (D17); 0 means no poll (R375). -/
  txPollMax : Nat
  /-- `TXDONE_POLLS` (D18). -/
  txdonePolls : Nat
  /-- `BIND_MAX_RESTARTS` (D21); 0 means no bound. -/
  bindMaxRestarts : Nat
  /-- `SEQ_LISTEN_POLLS` (D31). -/
  seqListenPolls : Nat
  /-- `SEQ_MAX_ATTEMPTS` less one, so that the type holds R9's range 1..255 (D31). -/
  seqRetries : Fin 255
  /-- `SEQ_BYTE_INDEX` (D31). -/
  seqByteIndex : Nat
  /-- `DATA_MODE` (D6). -/
  dataMode : DataMode
  /-- `DLY_DATA`; every delay has 16 bits, as R9 asks. -/
  dlyData : Half
  /-- `DLY_BIND_TX` (D32). -/
  dlyBindTx : Half
  /-- `DLY_TXDONE` (D32). -/
  dlyTxdone : Half
  /-- `DLY_LISTEN_FAIL` (D32). -/
  dlyListenFail : Half
  /-- `DLY_LISTEN_OK` (D32). -/
  dlyListenOk : Half
  /-- `DLY_B8_FAIL` (D32). -/
  dlyB8Fail : Half
  /-- `DLY_B8_OK` (D32). -/
  dlyB8Ok : Half
deriving DecidableEq, Repr

namespace Config

/-- `SEQ_MAX_ATTEMPTS`, in 1..255 by R9. -/
def seqMaxAttempts (c : Config) : Nat := c.seqRetries.val + 1

/-- The eight strobe codes, in the order of R118. -/
def strobes (c : Config) : List Byte :=
  [c.strobeSleep, c.strobeIdle, c.strobeStandby, c.strobePll, c.strobeRx, c.strobeTx, c.strobeRstWrptr, c.strobeRstRdptr]

/-- The transceiver addresses that the block's own sequences use, besides `FIFO_ADDR` and `ID_ADDR` (R84). -/
def ownAddresses (c : Config) : List Byte := [c.modeReg, c.channelReg, c.rssiReg, c.codeReg, c.powerReg]

/-- The bytes of the flight-control packet that no other field uses (R9, R195). -/
def freeDataBytes : List Nat := [1, 3, 5, 7, 9, 10, 11, 12, 13, 14]

/-- The constraints of R9 that the types of the fields do not already hold; the last one, that the addresses of R84 are
in range, is read from R83 and R313 (DEDUCED, safe: log entry 3). -/
def wf (c : Config) : Bool :=
  decide (c.flagsIndex ∈ freeDataBytes)
    && decide (1 ≤ c.seqByteIndex ∧ c.seqByteIndex ≤ 14)
    && decide (1 ≤ c.rssiSamples ∧ c.rssiSamples ≤ 257)
    && decide (c.txPollMax ≤ 255)
    && decide (1 ≤ c.txdonePolls ∧ c.txdonePolls ≤ 255)
    && decide (1 ≤ c.seqListenPolls ∧ c.seqListenPolls ≤ 255)
    && decide (c.bindMaxRestarts ≤ 255)
    && decide c.strobes.Nodup
    && c.strobes.all (fun b => b.getLsbD 7)
    && c.ownAddresses.all (fun a => decide (a.toNat ≤ Param.regAddrMax))

/-- The free value of R6: the `n`-th byte the transceiver returns when no scripted answer stands in
`State.misoQueue`. It has no body: nothing can be proved of any of its values (log entry 5). -/
opaque freeMiso : Nat → Byte

/-- `SEQ_MAX_ATTEMPTS` less one, which R8 leaves OPEN: no value, so no body (log entry 4). -/
opaque openSeqRetries : Fin 255

/-- The values this hardware takes (R8). -/
def hardware : Config where
  dummyByte := 0x00
  modeReg := 0x00
  busyMask := 0x01
  channelReg := 0x0F
  rssiReg := 0x1D
  codeReg := 0x1F
  codeFecValue := 0x0F
  powerReg := 0x28
  strobeSleep := 0x80
  strobeIdle := 0x90
  strobeStandby := 0xA0
  strobePll := 0xB0
  strobeRx := 0xC0
  strobeTx := 0xD0
  strobeRstWrptr := 0xE0
  strobeRstRdptr := 0xF0
  channelTable := #v[0x14, 0x1E, 0x28, 0x32, 0x3C, 0x46, 0x50, 0x5A, 0x64, 0x6E, 0x78, 0x82]
  rssiSamples := 15
  txid := 0xDB042638
  flagsIndex := 9
  txPollMax := 20
  txdonePolls := 20
  bindMaxRestarts := 0
  seqListenPolls := 15
  seqRetries := openSeqRetries
  seqByteIndex := 1
  dataMode := .cycled
  dlyData := 10000
  dlyBindTx := 3000
  dlyTxdone := 4500
  dlyListenFail := 4500
  dlyListenOk := 500
  dlyB8Fail := 15000
  dlyB8Ok := 28000

end Config

end Sys2Proof
end

