-- ==== Sys2Proof/Syntax.lean ====
section
/-! DEFINITION. The instructions: one constructor per row of spec/opcode_table.json. The table lays three code spaces
side by side: the commands the host writes to `CMD` (30_encoding.md R111), the SPI frames the block sends (R114), and the
arms of `TICK` that the state byte selects (R125). -/

namespace Sys2Proof

/-- The transmit states of the tick-driven bind (R241). -/
inductive BindTx where
  | bind1
  | bind3
  | bind5
  | bind7
deriving DecidableEq, Repr

/-- The listen states of the tick-driven bind, but for `BIND_8` (R254). -/
inductive BindListen where
  | bind2
  | bind4
  | bind6
deriving DecidableEq, Repr

/-- The steps of the data cycle (R292). -/
inductive DataStep where
  | data1
  | data2
  | data3
  | data4
  | data5
deriving DecidableEq, Repr

/-- The states in which a `TICK` is refused with `BAD_STATE` (R316). -/
inductive Stopped where
  | bindFailed
  | idle
deriving DecidableEq, Repr

/-- One constructor per row of the opcode table. A command has no operand but its opcode (R110): its operands stand in
host registers. A frame carries its bytes' fields (R114). An arm carries the state that selects it (R125). -/
inductive Instr where
  | nop
  | regRead
  | regWrite
  | strobe
  | setId
  | fifoWrite
  | fifoRead
  | scan
  | buildBind
  | buildData
  | bindStart
  | tick
  | bindSeq
  | abort
  | illegalOpcode (op : Byte)
  | spiRead (a : BitVec 6)
  | spiWrite (a : BitVec 6) (v : Byte)
  | spiBurst (data : List Byte)
  | spiId (id : Word)
  | strobeSleep
  | strobeIdle
  | strobeStandby
  | strobePll
  | strobeRx
  | strobeTx
  | strobeRstWrptr
  | strobeRstRdptr
  | tickBindTx (k : BindTx)
  | tickTxDone (k : BindTx)
  | tickListen (k : BindListen)
  | tickBind8
  | tickData (k : DataStep)
  | tickBadState (k : Stopped)
deriving DecidableEq, Repr

end Sys2Proof
end

