-- ==== Sys2Proof/WellFormed.lean ====
section
/-! DEFINITION. Which terms of `Instr` are instructions: the ranges the opcode table and R115 to R117 give their fields. -/

namespace Sys2Proof

namespace Instr

/-- A field that the table confines is in its range: an illegal opcode is 0x0E..0xFF (R113), a frame's register address is
0x00..`REG_ADDR_MAX` (R115, R116), a burst has 1..`FIFO_DEPTH` data bytes (R117). -/
def wf : Instr → Bool
  | nop => true
  | regRead => true
  | regWrite => true
  | strobe => true
  | setId => true
  | fifoWrite => true
  | fifoRead => true
  | scan => true
  | buildBind => true
  | buildData => true
  | bindStart => true
  | tick => true
  | bindSeq => true
  | abort => true
  | illegalOpcode op => decide (0x0E ≤ op.toNat)
  | spiRead a => decide (a.toNat ≤ Param.regAddrMax)
  | spiWrite a _ => decide (a.toNat ≤ Param.regAddrMax)
  | spiBurst data => decide (1 ≤ data.length ∧ data.length ≤ Param.fifoDepth)
  | spiId _ => true
  | strobeSleep => true
  | strobeIdle => true
  | strobeStandby => true
  | strobePll => true
  | strobeRx => true
  | strobeTx => true
  | strobeRstWrptr => true
  | strobeRstRdptr => true
  | tickBindTx _ => true
  | tickTxDone _ => true
  | tickListen _ => true
  | tickBind8 => true
  | tickData _ => true
  | tickBadState _ => true

end Instr

end Sys2Proof
end

