-- ==== Sys2Proof/Decode.lean ====
section
/-! DEFINITION. Decoding and encoding of the three code spaces of spec/opcode_table.json: command bytes (30_encoding.md
R111), SPI frames (R114 to R120) and the state byte (R123 to R125); and the byte order of multi-byte values (R87). -/

namespace Sys2Proof

/-! ## Byte order -/

/-- `be32(v)` of R10: most significant byte first (R87). -/
def be32 (v : Word) : List Byte :=
  [v.extractLsb' 24 8, v.extractLsb' 16 8, v.extractLsb' 8 8, v.extractLsb' 0 8]

/-- `from_be32(b0, b1, b2, b3)` of R10. -/
def fromBe32 (b0 b1 b2 b3 : Byte) : Word := b0 ++ b1 ++ b2 ++ b3

/-! ## The state byte -/

/-- `WAIT_WRITE`, bit 7 of `STATE` (R123, R124). -/
def waitWrite : Byte := 0x80

/-- The state byte of a transmit state, `BIND_k` = k - 1 (R124). -/
def BindTx.code : BindTx → Byte
  | .bind1 => 0x00
  | .bind3 => 0x02
  | .bind5 => 0x04
  | .bind7 => 0x06

/-- The state byte of a listen state, `BIND_k` = k - 1 (R124). -/
def BindListen.code : BindListen → Byte
  | .bind2 => 0x01
  | .bind4 => 0x03
  | .bind6 => 0x05

/-- The state byte of `BIND_8` (R124). -/
def bind8Code : Byte := 0x07

/-- The state byte of a data step, `DATA_k` = k + 7 (R124). -/
def DataStep.code : DataStep → Byte
  | .data1 => 0x08
  | .data2 => 0x09
  | .data3 => 0x0A
  | .data4 => 0x0B
  | .data5 => 0x0C

/-- The state bytes of `BIND_FAILED` and `IDLE` (R124). -/
def Stopped.code : Stopped → Byte
  | .bindFailed => 0x0E
  | .idle => 0x0F

/-- The arms of `TICK` (R125). -/
inductive TickArm where
  | bindTx (k : BindTx)
  | txDone (k : BindTx)
  | listen (k : BindListen)
  | bind8
  | data (k : DataStep)
  | stopped (k : Stopped)
deriving DecidableEq, Repr

/-- The arm a state byte selects, the table of R125; none for a value outside the reachable set of R124. -/
def selectArm (b : Byte) : Option TickArm :=
  match b.toNat with
  | 0x00 => some (.bindTx .bind1)
  | 0x01 => some (.listen .bind2)
  | 0x02 => some (.bindTx .bind3)
  | 0x03 => some (.listen .bind4)
  | 0x04 => some (.bindTx .bind5)
  | 0x05 => some (.listen .bind6)
  | 0x06 => some (.bindTx .bind7)
  | 0x07 => some .bind8
  | 0x08 => some (.data .data1)
  | 0x09 => some (.data .data2)
  | 0x0A => some (.data .data3)
  | 0x0B => some (.data .data4)
  | 0x0C => some (.data .data5)
  | 0x0E => some (.stopped .bindFailed)
  | 0x0F => some (.stopped .idle)
  | 0x80 => some (.txDone .bind1)
  | 0x82 => some (.txDone .bind3)
  | 0x84 => some (.txDone .bind5)
  | 0x86 => some (.txDone .bind7)
  | _ => none

/-- The instruction of an arm. -/
def TickArm.instr : TickArm → Instr
  | .bindTx k => .tickBindTx k
  | .txDone k => .tickTxDone k
  | .listen k => .tickListen k
  | .bind8 => .tickBind8
  | .data k => .tickData k
  | .stopped k => .tickBadState k

/-! ## Decoding -/

/-- Why bytes are no instruction of their code space. -/
inductive DecodeError where
  /-- A frame has at least one byte (R114). -/
  | emptyFrame
  /-- A command and a state are one byte (R110, R123). -/
  | notOneByte
  /-- A first byte in 0x80..0xFF that is none of the eight codes (R122). -/
  | noStrobeCode
  /-- A register address above `REG_ADDR_MAX` (R122). -/
  | addressAboveMax
  /-- The second byte of a READ frame is not `DUMMY_BYTE` (R115). -/
  | notDummyByte
  /-- No format of R114 has this length with this first byte. -/
  | noSuchLength
  /-- A state byte outside the reachable set (R124, R331). -/
  | unreachableState
deriving DecidableEq, Repr

/-- The command of an opcode, the table of R111: total, 0x0E to 0xFF are the illegal opcodes (R113). -/
def decodeCommand (op : Byte) : Instr :=
  match op.toNat with
  | 0x00 => .nop
  | 0x01 => .regRead
  | 0x02 => .regWrite
  | 0x03 => .strobe
  | 0x04 => .setId
  | 0x05 => .fifoWrite
  | 0x06 => .fifoRead
  | 0x07 => .scan
  | 0x08 => .buildBind
  | 0x09 => .buildData
  | 0x0A => .bindStart
  | 0x0B => .tick
  | 0x0C => .bindSeq
  | 0x0D => .abort
  | _ => .illegalOpcode op

/-- The strobe of a code (R118). -/
def decodeStrobe (c : Config) (b : Byte) : Except DecodeError Instr :=
  if b = c.strobeSleep then .ok .strobeSleep
  else if b = c.strobeIdle then .ok .strobeIdle
  else if b = c.strobeStandby then .ok .strobeStandby
  else if b = c.strobePll then .ok .strobePll
  else if b = c.strobeRx then .ok .strobeRx
  else if b = c.strobeTx then .ok .strobeTx
  else if b = c.strobeRstWrptr then .ok .strobeRstWrptr
  else if b = c.strobeRstRdptr then .ok .strobeRstRdptr
  else .error .noStrobeCode

/-- A READ frame's fields (R115): the address in bits 5:0 of the first byte, then the dummy byte. -/
def decodeRead (c : Config) (b : Byte) (rest : List Byte) : Except DecodeError Instr :=
  match rest with
  | [d] =>
    if Param.regAddrMax < (b.extractLsb' 0 6).toNat then .error .addressAboveMax
    else if d = c.dummyByte then .ok (.spiRead (b.extractLsb' 0 6))
    else .error .notDummyByte
  | _ => .error .noSuchLength

/-- A frame whose first byte has bits 7:6 clear (R120): chip-select sets its length. A frame of `FIFO_ADDR` and one data
byte is read as the burst with N = 1, which has the same bytes as the WRITE and means the same (R116). -/
def decodeWrite (b : Byte) (rest : List Byte) : Except DecodeError Instr :=
  if b = Param.fifoAddr then
    if 1 ≤ rest.length ∧ rest.length ≤ Param.fifoDepth then .ok (.spiBurst rest) else .error .noSuchLength
  else
    match rest with
    | [v] =>
      if Param.regAddrMax < (b.extractLsb' 0 6).toNat then .error .addressAboveMax
      else .ok (.spiWrite (b.extractLsb' 0 6) v)
    | [b0, b1, b2, b3] => if b = Param.idAddr then .ok (.spiId (fromBe32 b0 b1 b2 b3)) else .error .noSuchLength
    | _ => .error .noSuchLength

/-- The frame of a MOSI byte list, told by its first byte and its length (R120). -/
def decodeFrame (c : Config) (bytes : List Byte) : Except DecodeError Instr :=
  match bytes with
  | [] => .error .emptyFrame
  | b :: rest =>
    if b.getLsbD 7 then
      match rest with
      | [] => decodeStrobe c b
      | _ => .error .noSuchLength
    else if b.getLsbD 6 then decodeRead c b rest
    else decodeWrite b rest

/-- The arm of a state byte as an instruction (R125), rejected where no reachable state has the value (R331). -/
def decodeState (b : Byte) : Except DecodeError Instr :=
  match selectArm b with
  | some arm => .ok arm.instr
  | none => .error .unreachableState

/-- The three code spaces of the opcode table (its "format" column). -/
inductive Space where
  | command
  | frame
  | state
deriving DecidableEq, Repr

/-- The decoder of each space. -/
def decode (c : Config) (sp : Space) (bytes : List Byte) : Except DecodeError Instr :=
  match sp with
  | .command =>
    match bytes with
    | [op] => .ok (decodeCommand op)
    | _ => .error .notOneByte
  | .frame => decodeFrame c bytes
  | .state =>
    match bytes with
    | [b] => decodeState b
    | _ => .error .notOneByte

/-! ## Encoding -/

/-- The space an instruction's bytes belong to. -/
def Instr.space : Instr → Space
  | nop => .command
  | regRead => .command
  | regWrite => .command
  | strobe => .command
  | setId => .command
  | fifoWrite => .command
  | fifoRead => .command
  | scan => .command
  | buildBind => .command
  | buildData => .command
  | bindStart => .command
  | tick => .command
  | bindSeq => .command
  | abort => .command
  | illegalOpcode _ => .command
  | spiRead _ => .frame
  | spiWrite _ _ => .frame
  | spiBurst _ => .frame
  | spiId _ => .frame
  | strobeSleep => .frame
  | strobeIdle => .frame
  | strobeStandby => .frame
  | strobePll => .frame
  | strobeRx => .frame
  | strobeTx => .frame
  | strobeRstWrptr => .frame
  | strobeRstRdptr => .frame
  | tickBindTx _ => .state
  | tickTxDone _ => .state
  | tickListen _ => .state
  | tickBind8 => .state
  | tickData _ => .state
  | tickBadState _ => .state

/-- The bytes of an instruction: its opcode (R112), its MOSI bytes (R115 to R119), or the state byte that selects it
(R124, R125). -/
def encode (c : Config) : Instr → List Byte
  | .nop => [0x00]
  | .regRead => [0x01]
  | .regWrite => [0x02]
  | .strobe => [0x03]
  | .setId => [0x04]
  | .fifoWrite => [0x05]
  | .fifoRead => [0x06]
  | .scan => [0x07]
  | .buildBind => [0x08]
  | .buildData => [0x09]
  | .bindStart => [0x0A]
  | .tick => [0x0B]
  | .bindSeq => [0x0C]
  | .abort => [0x0D]
  | .illegalOpcode op => [op]
  | .spiRead a => [0b01#2 ++ a, c.dummyByte]
  | .spiWrite a v => [0b00#2 ++ a, v]
  | .spiBurst data => Param.fifoAddr :: data
  | .spiId id => Param.idAddr :: be32 id
  | .strobeSleep => [c.strobeSleep]
  | .strobeIdle => [c.strobeIdle]
  | .strobeStandby => [c.strobeStandby]
  | .strobePll => [c.strobePll]
  | .strobeRx => [c.strobeRx]
  | .strobeTx => [c.strobeTx]
  | .strobeRstWrptr => [c.strobeRstWrptr]
  | .strobeRstRdptr => [c.strobeRstRdptr]
  | .tickBindTx k => [k.code]
  | .tickTxDone k => [k.code ||| waitWrite]
  | .tickListen k => [k.code]
  | .tickBind8 => [bind8Code]
  | .tickData k => [k.code]
  | .tickBadState k => [k.code]

/-! ## Table words -/

/-- Byte `k` of a table word: the first byte is bits 7:0. -/
def wordByte (w k : Nat) : Byte := BitVec.ofNat 8 (w / 2 ^ (8 * k))

/-- The bytes of a table word of `nbits` bits, the first at the lowest place. -/
def wordBytes (nbits w : Nat) : List Byte := (List.range (nbits / 8)).map (wordByte w)

/-- A one-byte table word. The table's three spaces use the same bytes, so they are tried in the table's order: a command
(R111), then a strobe frame, then a READ frame with its operand byte zero, and every other byte is the command space's
illegal opcode (R113). No one-byte word is read as an arm: all are taken before (log entry 9). -/
def decodeOneByte (c : Config) (b : Byte) : Instr :=
  if b.toNat ≤ 0x0D then decodeCommand b
  else if b.getLsbD 7 then
    match decodeFrame c [b] with
    | .ok i => i
    | .error _ => decodeCommand b
  else if b.getLsbD 6 then
    match decodeFrame c [b, 0x00] with
    | .ok i => i
    | .error _ => decodeCommand b
  else decodeCommand b

/-- The instruction read from a table word: one byte as `decodeOneByte` says, more bytes as a frame. -/
def decodeTableWord (nbits w : Nat) : Option Instr :=
  match wordBytes nbits w with
  | [] => none
  | [b] => some (decodeOneByte Config.hardware b)
  | bytes =>
    match decodeFrame Config.hardware bytes with
    | .ok i => some i
    | .error _ => none

end Sys2Proof
end

