-- ==== Sys2Proof/Machine/State.lean ====
section
/-! DEFINITION. The state of the block (10_state.md R30 to R58), the reasons a step can stop, and the state after reset
(70_reset_and_hazards.md R351). -/

namespace Sys2Proof.Machine

/-- One SPI frame of the trace: the bytes sent and the bytes received at the same time (00_scope.md R5, R58). -/
structure Frame where
  mosi : List Byte
  miso : List Byte
deriving DecidableEq, Repr

/-- One host access (20_memory.md R81): `hw a, v` or `hr a` of R129. -/
inductive HostAccess where
  | write (a v : Byte)
  | read (a : Byte)
deriving DecidableEq, Repr

/-- The error codes of 60_exceptions.md R312. -/
inductive ErrorCode where
  | illegalOpcode
  | badAddr
  | badLen
  | badStrobe
  | badState
deriving DecidableEq, Repr

/-- Why a step stops with a fault. -/
inductive Fault where
  /-- `UNREACHABLE_STATE` (60_exceptions.md R331, U12): raised by the meaning of `TICK` when `STATE` holds a value that no
  rule writes. Safe: the spec says it cannot happen, and the model stops rather than choose an effect. -/
  | unreachableState
deriving DecidableEq, Repr

/-- Why a step is refused. -/
inductive Refusal where
  /-- An instruction with no meaning yet, by its mnemonic in the opcode table; raised by an arm of `exec`. Safe. -/
  | notModelled (mnemonic : String)
  /-- The parameters break a constraint of 00_scope.md R9; raised by `step`. Safe: R9 says the model refuses it. -/
  | badConfig
  /-- A term of `Instr` for a frame the block never sends (30_encoding.md R122): an address above `REG_ADDR_MAX`, or a burst
  of no byte or of more than `FIFO_DEPTH`; raised by the meanings of the frame rows. Safe: no such frame exists. -/
  | frameNeverSent
deriving DecidableEq, Repr

/-- Everything the spec gives the block, then the model's own fields (the two agents around the block, R6). -/
@[ext]
structure State where
  /-- The parameters the block was built with (00_scope.md R8, R353): no step changes them. -/
  config : Config
  /-- `CMD`, host 0x00 (R33). -/
  cmd : Byte
  /-- `ARG0`, host 0x01 (R34). -/
  arg0 : Byte
  /-- `ARG1`, host 0x02 (R35). -/
  arg1 : Byte
  /-- `RDATA`, host 0x03 (R36). -/
  rdata : Byte
  /-- `STATUS.ERR`, bit 0 of host 0x04 (R37). -/
  err : Bool
  /-- `STATUS.TXTO`, bit 1 of host 0x04 (R37). -/
  txto : Bool
  /-- `STATUS.BFAIL`, bit 2 of host 0x04 (R37). -/
  bfail : Bool
  /-- `ERRCODE`, host 0x05 (R38). -/
  errcode : Byte
  /-- `STATE`, host 0x06: `WAIT_WRITE` in bit 7, `STEP` in bits 6:0 (R39). -/
  state : Byte
  /-- `CHANNEL`, host 0x07 (R40). -/
  channel : Byte
  /-- `LAST_STROBE`, host 0x08 (R41). -/
  lastStrobe : Byte
  /-- The output `TXEN`, mirrored in bit 0 of `PINS`, host 0x09 (R42). -/
  txen : Bool
  /-- The output `RXEN`, mirrored in bit 1 of `PINS`, host 0x09 (R42). -/
  rxen : Bool
  /-- `CTRL.REBIND_REQ`, bit 0 of host 0x0A (R43). -/
  rebindReq : Bool
  /-- `RESTARTS`, host 0x0B (R44). -/
  restarts : Byte
  /-- `ROUND`, host 0x0C (R45). -/
  round : Byte
  /-- `TXCOUNT`, host 0x0D (R46). -/
  txcount : Byte
  /-- `DELAY_US`, host 0x0E (high) and 0x0F (low) (R47). -/
  delayUs : Half
  /-- `SESSION_ID`, host 0x10..0x13 (R48). -/
  sessionId : Word
  /-- `DEV_ID`, host 0x14..0x17 (R49). -/
  devId : Word
  /-- `THROTTLE`, host 0x18 (R50). -/
  throttle : Byte
  /-- `RUDDER`, host 0x19 (R50). -/
  rudder : Byte
  /-- `ELEVATOR`, host 0x1A (R50). -/
  elevator : Byte
  /-- `AILERON`, host 0x1B (R50). -/
  aileron : Byte
  /-- `FLAGS`, host 0x1C (R51). -/
  flags : Byte
  /-- `TXPOWER`, host 0x1D (R52). -/
  txpower : Byte
  /-- `TXBUF[0..15]`, host 0x20..0x2F (R53). -/
  txbuf : Packet
  /-- `RXBUF[0..15]`, host 0x30..0x3F (R54). -/
  rxbuf : Packet
  /-- `RSSI_SUM[0..11]`, host 0x40..0x57 (R55). -/
  rssiSum : Vector Half 12
  /-- `BEST_IDX`, host 0x58 (R56). -/
  bestIdx : Byte
  /-- The frame trace, oldest first (R58). -/
  trace : List Frame
  /-- The model's own: the host's accesses still to come, the next one first (R6, log entry 6). -/
  hostQueue : List HostAccess
  /-- The model's own: what host reads returned, oldest first, as (address, value) (R82, log entry 7). -/
  hostReads : List (Byte × Byte)
  /-- The model's own: the next MISO bytes of a scripted transceiver; beyond them every byte is free (R6, log entry 5). -/
  misoQueue : List Byte
  /-- The model's own: how many MISO bytes the transceiver has returned since reset (log entry 5). -/
  draws : Nat
deriving DecidableEq, Repr

/-- The block after reset (R351, R352): every register at the value of R351's table, outputs in receive, trace empty; the
parameters of R8; no host access under way and no scripted answer. -/
def State.reset : State where
  config := Config.hardware
  cmd := 0x00
  arg0 := 0x00
  arg1 := 0x00
  rdata := 0x00
  err := false
  txto := false
  bfail := false
  errcode := 0x00
  state := 0x0F
  channel := 0x00
  lastStrobe := 0x00
  txen := false
  rxen := true
  rebindReq := false
  restarts := 0x00
  round := 0x00
  txcount := 0x00
  delayUs := 0x0000
  sessionId := 0x00000000
  devId := 0x00000000
  throttle := 0x00
  rudder := 0x80
  elevator := 0x80
  aileron := 0x80
  flags := 0x00
  txpower := 0x00
  txbuf := Vector.replicate 16 0x00
  rxbuf := Vector.replicate 16 0x00
  rssiSum := Vector.replicate 12 0x0000
  bestIdx := 0x00
  trace := []
  hostQueue := []
  hostReads := []
  misoQueue := []
  draws := 0

end Sys2Proof.Machine
end

