-- ==== Sys2Proof/Machine/Operands.lean ====
section
/-! DEFINITION. The operand forms of the commands (30_encoding.md R112, R121; 40_transport.md R159) and the map from host
addresses to registers (10_state.md R31, R32). -/

namespace Sys2Proof.Machine

/-! ## Operand checks -/

/-- `ValidAddr(a)` of R159. -/
def validAddr (a : Byte) : Bool := decide (a.toNat ≤ Param.regAddrMax)

/-- `ValidLen(n)` of R159. -/
def validLen (n : Byte) : Bool := decide (1 ≤ n.toNat ∧ n.toNat ≤ Param.fifoDepth)

/-- `ValidStrobe(c)` of R159: one of the eight codes of R118. -/
def validStrobe (c : Config) (b : Byte) : Bool := decide (b ∈ c.strobes)

/-- The bytes `TXBUF[0..n-1]` (R155). -/
def txBytes (s : State) (n : Nat) : List Byte := s.txbuf.toList.take n

/-- The vehicle ID of a reply: bytes 2..5, most significant first (R87 c, R254, R266). -/
def replyId (s : State) : Word := fromBe32 s.rxbuf[2] s.rxbuf[3] s.rxbuf[4] s.rxbuf[5]

/-- The first byte of a register frame for a 6-bit address (R121). -/
def addrByte (a : BitVec 6) : Byte := a.setWidth 8

/-! ## The host register map -/

/-- The byte that a host address names (R31). A multi-byte register has one place per byte, the most significant first. -/
inductive HostByte where
  | cmd
  | arg0
  | arg1
  | rdata
  | status
  | errcode
  | state
  | channel
  | lastStrobe
  | pins
  | ctrl
  | restarts
  | round
  | txcount
  | delayHi
  | delayLo
  | sessionId (i : Fin 4)
  | devId (i : Fin 4)
  | throttle
  | rudder
  | elevator
  | aileron
  | flags
  | txpower
  | txbuf (i : Fin 16)
  | rxbuf (i : Fin 16)
  | rssiHi (i : Fin 12)
  | rssiLo (i : Fin 12)
  | bestIdx
  | reserved
deriving DecidableEq, Repr

/-- The register map of R31. -/
def hostByte (a : Byte) : HostByte :=
  match a.toNat with
  | 0x00 => .cmd
  | 0x01 => .arg0
  | 0x02 => .arg1
  | 0x03 => .rdata
  | 0x04 => .status
  | 0x05 => .errcode
  | 0x06 => .state
  | 0x07 => .channel
  | 0x08 => .lastStrobe
  | 0x09 => .pins
  | 0x0A => .ctrl
  | 0x0B => .restarts
  | 0x0C => .round
  | 0x0D => .txcount
  | 0x0E => .delayHi
  | 0x0F => .delayLo
  | 0x10 => .sessionId 0
  | 0x11 => .sessionId 1
  | 0x12 => .sessionId 2
  | 0x13 => .sessionId 3
  | 0x14 => .devId 0
  | 0x15 => .devId 1
  | 0x16 => .devId 2
  | 0x17 => .devId 3
  | 0x18 => .throttle
  | 0x19 => .rudder
  | 0x1A => .elevator
  | 0x1B => .aileron
  | 0x1C => .flags
  | 0x1D => .txpower
  | 0x1E => .reserved
  | 0x1F => .reserved
  | 0x58 => .bestIdx
  | n =>
    if h : 0x20 ≤ n ∧ n < 0x30 then .txbuf ⟨n - 0x20, by omega⟩
    else if h : 0x30 ≤ n ∧ n < 0x40 then .rxbuf ⟨n - 0x30, by omega⟩
    else if h : 0x40 ≤ n ∧ n < 0x58 then
      if n % 2 = 0 then .rssiHi ⟨(n - 0x40) / 2, by omega⟩ else .rssiLo ⟨(n - 0x40) / 2, by omega⟩
    else .reserved

/-- The access codes of R32; `STATUS` and `CTRL` have rows of their own in 20_memory.md R82. -/
inductive Access where
  | rw
  | ro
  | cmd
  | res
  | status
  | ctrl
deriving DecidableEq, Repr

/-- The access column of R31. -/
def HostByte.access : HostByte → Access
  | cmd => .cmd
  | arg0 => .rw
  | arg1 => .rw
  | rdata => .ro
  | status => .status
  | errcode => .ro
  | state => .ro
  | channel => .rw
  | lastStrobe => .ro
  | pins => .ro
  | ctrl => .ctrl
  | restarts => .ro
  | round => .ro
  | txcount => .ro
  | delayHi => .ro
  | delayLo => .ro
  | sessionId _ => .rw
  | devId _ => .rw
  | throttle => .rw
  | rudder => .rw
  | elevator => .rw
  | aileron => .rw
  | flags => .rw
  | txpower => .rw
  | txbuf _ => .rw
  | rxbuf _ => .ro
  | rssiHi _ => .ro
  | rssiLo _ => .ro
  | bestIdx => .ro
  | reserved => .res

/-- Byte `i` of a 32-bit register, byte 0 the most significant (R48, R87 e). -/
def byteOf (v : Word) (i : Fin 4) : Byte := v.extractLsb' (24 - 8 * i.val) 8

/-- A 32-bit register with its byte `i` replaced (R89). -/
def withByte (v : Word) (i : Fin 4) (b : Byte) : Word :=
  match i with
  | 0 => fromBe32 b (byteOf v 1) (byteOf v 2) (byteOf v 3)
  | 1 => fromBe32 (byteOf v 0) b (byteOf v 2) (byteOf v 3)
  | 2 => fromBe32 (byteOf v 0) (byteOf v 1) b (byteOf v 3)
  | 3 => fromBe32 (byteOf v 0) (byteOf v 1) (byteOf v 2) b

/-- The high byte of a 16-bit register, at the lower address (R31, R87 e). -/
def highByte (v : Half) : Byte := v.extractLsb' 8 8

/-- The low byte of a 16-bit register. -/
def lowByte (v : Half) : Byte := v.extractLsb' 0 8

end Sys2Proof.Machine
end

