-- ==== Sys2Proof/Machine/Flags.lean ====
section
/-! DEFINITION. The condition bits (10_state.md R60): the `STATUS` byte and its derived bits (R37), the busy bit, the
saturating and modular counters, the checksum (41_packets.md R191). -/

namespace Sys2Proof.Machine

/-- A bit as a byte with that bit at place 0. -/
def bit (b : Bool) : Byte := if b then 1 else 0

/-- `STATUS.BOUND` (R37): `STATE` is one of `DATA_1`..`DATA_5`. -/
def bound (s : State) : Bool := decide (0x08 ≤ s.state.toNat ∧ s.state.toNat ≤ 0x0C)

/-- `STATUS.BINDING` (R37): `STATE[6:0]` is one of `BIND_1`..`BIND_8`, with or without `WAIT_WRITE`. -/
def binding (s : State) : Bool := decide ((s.state.extractLsb' 0 7).toNat ≤ 0x07)

/-- The `STATUS` byte a host read returns, {0b000, BINDING, BOUND, BFAIL, TXTO, ERR} (R82). -/
def statusByte (s : State) : Byte :=
  (bit (binding s) <<< 4) ||| (bit (bound s) <<< 3) ||| (bit s.bfail <<< 2) ||| (bit s.txto <<< 1) ||| bit s.err

/-- The `PINS` byte, {0b000000, RXEN, TXEN} (R42, R158). -/
def pinsByte (s : State) : Byte := (bit s.rxen <<< 1) ||| bit s.txen

/-- The `CTRL` byte: bits 7:1 read 0 (R43, R57). -/
def ctrlByte (s : State) : Byte := bit s.rebindReq

/-- The busy bit of a drawn `MODE_REG` byte (R60). -/
def busy (c : Config) (m : Byte) : Bool := decide (m &&& c.busyMask ≠ 0)

/-- `sat8` of one more than a byte (R11, R256). -/
def satSucc (b : Byte) : Byte := BitVec.ofNat 8 (min (b.toNat + 1) 255)

/-- `Cks` of R191 over bytes 0..14 of a packet. -/
def checksum (p : Packet) : Byte :=
  BitVec.ofNat 8 (256 - ((p.toList.take 15).map BitVec.toNat).sum % 256)

/-- `Secondary(ch)` of R227; the addition wraps modulo 256. -/
def secondary (ch : Byte) : Byte := ch + Param.secondaryOffset

end Sys2Proof.Machine
end

