-- ==== Sys2Proof/Machine/Ops.lean ====
section
/-! DEFINITION. The operations every instruction is made of: the SPI bus and its primitives (40_transport.md R150 to
R158), raising a command error and acknowledging it (60_exceptions.md R311, R322), the host register map (20_memory.md
R82) and the packet buffer. -/

namespace Sys2Proof.Machine

/-! ## The transceiver's answers -/

/-- The `j`-th MISO byte still to come: the script's while it lasts, then a free value (R6, R150; log entry 5). -/
def misoAt (s : State) (j : Nat) : Byte :=
  match s.misoQueue[j]? with
  | some b => b
  | none => Config.freeMiso (s.draws + j)

/-- The next `n` MISO bytes. -/
def answers (s : State) (n : Nat) : List Byte := (List.range n).map (misoAt s)

/-! ## The bus -/

/-- `Xfer(mosi)` of R150: the frame goes to the trace with one drawn byte per MOSI byte. The bytes received are
`answers s mosi.length`. -/
def xfer (mosi : List Byte) (s : State) : State :=
  { s with
    trace := s.trace ++ [⟨mosi, answers s mosi.length⟩]
    misoQueue := s.misoQueue.drop mosi.length
    draws := s.draws + mosi.length }

/-- The MOSI bytes of a READ frame (R115). -/
def readFrame (c : Config) (a : Byte) : List Byte := [a ||| Param.readFlag, c.dummyByte]

/-- `RegRead(a)` of R151: MISO byte 1 of one READ frame, and the state after it. -/
def regRead (a : Byte) (s : State) : Byte × State := (misoAt s 1, xfer (readFrame s.config a) s)

/-- `RegWrite(a, v)` of R154. -/
def regWrite (a v : Byte) (s : State) : State := xfer [a ||| Param.writeFlag, v] s

/-- `Strobe(c)` of R152. -/
def strobe (code : Byte) (s : State) : State := { xfer [code] s with lastStrobe := code }

/-- `SetId(id)` of R153. -/
def setId (id : Word) (s : State) : State := { xfer (Param.idAddr :: be32 id) s with devId := id }

/-- The burst of R117. -/
def burst (data : List Byte) (s : State) : State := xfer (Param.fifoAddr :: data) s

/-- `SetPins(tx, rx)` of R158. -/
def setPins (tx rx : Bool) (s : State) : State := { s with txen := tx, rxen := rx }

/-- What `PollBusy` returns (R157). -/
inductive Poll where
  | clear
  | timeout
deriving DecidableEq, Repr

/-- `PollBusy(k)` of R157: read the mode register until its busy bit is clear, at most `k` times. -/
def pollBusy : Nat → State → Poll × State
  | 0, s => (.timeout, s)
  | k + 1, s =>
    let (m, t) := regRead s.config.modeReg s
    if busy s.config m then pollBusy k t else (.clear, t)

/-- A completion poll: a timeout sets `STATUS.TXTO` and the command goes on (R155, R252, R318). -/
def pollCompletion (k : Nat) (s : State) : State :=
  match pollBusy k s with
  | (.clear, t) => t
  | (.timeout, t) => { t with txto := true }

/-- The completion poll of `WritePacket`: none at all when `TX_POLL_MAX` is 0 (R155, R375). -/
def pollAfterWrite (s : State) : State :=
  if 0 < s.config.txPollMax then pollCompletion s.config.txPollMax s else s

/-- `TXCOUNT` <- trunc8(`TXCOUNT` + 1) (R155). -/
def countTx (s : State) : State := { s with txcount := s.txcount + 1 }

/-- `WritePacket(n, ch)` of R155. -/
def writePacket (n : Nat) (ch : Byte) (s : State) : State :=
  let s := setPins true false s
  let s := strobe s.config.strobeRstWrptr s
  let s := burst (txBytes s n) s
  let s := regWrite s.config.channelReg ch s
  let s := strobe s.config.strobeTx s
  let s := countTx s
  let s := pollAfterWrite s
  setPins false true s

/-- `RXBUF[i]` <- `v` (R156). -/
def putRx (i : Nat) (v : Byte) (s : State) : State := { s with rxbuf := s.rxbuf.setIfInBounds i v }

/-- The reads of `ReadPacket`: `k` bytes into `RXBUF[i]` onwards (R156). -/
def readFifo : Nat → Nat → State → State
  | 0, _, s => s
  | k + 1, i, s =>
    let (v, t) := regRead Param.fifoAddr s
    readFifo k (i + 1) (putRx i v t)

/-- `ReadPacket(n)` of R156. -/
def readPacket (n : Nat) (s : State) : State := readFifo n 0 (strobe s.config.strobeRstRdptr s)

/-! ## Command errors -/

/-- The value `ERRCODE` takes (R312). -/
def ErrorCode.code : ErrorCode → Byte
  | illegalOpcode => 0x01
  | badAddr => 0x02
  | badLen => 0x03
  | badStrobe => 0x04
  | badState => 0x05

/-- `raise CmdError(code)` of R311: the block's one exception. It saves the code, and changes nothing else (R321). -/
def cmdError (e : ErrorCode) (s : State) : State := { s with err := true, errcode := e.code }

/-- The host's acknowledgement, a write of `v` to `STATUS`: the block's nearest thing to a return (R322, R82). -/
def ackStatus (v : Byte) (s : State) : State :=
  { s with
    err := s.err && !v.getLsbD 0
    errcode := if v.getLsbD 0 then 0x00 else s.errcode
    txto := s.txto && !v.getLsbD 1
    bfail := s.bfail && !v.getLsbD 2 }

/-! ## The host register map -/

/-- What a host read of a byte of the map returns (R82). -/
def readByte (s : State) : HostByte → Byte
  | .cmd => s.cmd
  | .arg0 => s.arg0
  | .arg1 => s.arg1
  | .rdata => s.rdata
  | .status => statusByte s
  | .errcode => s.errcode
  | .state => s.state
  | .channel => s.channel
  | .lastStrobe => s.lastStrobe
  | .pins => pinsByte s
  | .ctrl => ctrlByte s
  | .restarts => s.restarts
  | .round => s.round
  | .txcount => s.txcount
  | .delayHi => highByte s.delayUs
  | .delayLo => lowByte s.delayUs
  | .sessionId i => byteOf s.sessionId i
  | .devId i => byteOf s.devId i
  | .throttle => s.throttle
  | .rudder => s.rudder
  | .elevator => s.elevator
  | .aileron => s.aileron
  | .flags => s.flags
  | .txpower => s.txpower
  | .txbuf i => s.txbuf[i]
  | .rxbuf i => s.rxbuf[i]
  | .rssiHi i => highByte s.rssiSum[i]
  | .rssiLo i => lowByte s.rssiSum[i]
  | .bestIdx => s.bestIdx
  | .reserved => 0x00

/-- `stored(a) <- v` of R82, for the bytes a host write may store. -/
def storeByte (v : Byte) (s : State) : HostByte → State
  | .cmd => { s with cmd := v }
  | .arg0 => { s with arg0 := v }
  | .arg1 => { s with arg1 := v }
  | .channel => { s with channel := v }
  | .sessionId i => { s with sessionId := withByte s.sessionId i v }
  | .devId i => { s with devId := withByte s.devId i v }
  | .throttle => { s with throttle := v }
  | .rudder => { s with rudder := v }
  | .elevator => { s with elevator := v }
  | .aileron => { s with aileron := v }
  | .flags => { s with flags := v }
  | .txpower => { s with txpower := v }
  | .txbuf i => { s with txbuf := s.txbuf.set i v }
  | .rdata => s
  | .status => s
  | .errcode => s
  | .state => s
  | .lastStrobe => s
  | .pins => s
  | .ctrl => s
  | .restarts => s
  | .round => s
  | .txcount => s
  | .delayHi => s
  | .delayLo => s
  | .rxbuf _ => s
  | .rssiHi _ => s
  | .rssiLo _ => s
  | .bestIdx => s
  | .reserved => s

/-- `MemRead(a, 1)` of R82. -/
def memRead (s : State) (a : Byte) : Byte := readByte s (hostByte a)

/-- `MemWrite(a, 1, v)` of R82, less the execution that a write of `CMD` starts. -/
def memWrite (a v : Byte) (s : State) : State :=
  match (hostByte a).access with
  | .rw => storeByte v s (hostByte a)
  | .ro => s
  | .res => s
  | .cmd => storeByte v s (hostByte a)
  | .status => ackStatus v s
  | .ctrl => { s with rebindReq := v.getLsbD 0 }

/-! ## The packet buffer -/

/-- A packet with its checksum in byte 15 (R126, R191). -/
def withChecksum (p : Packet) : Packet := p.set 15 (checksum p)

/-- `TXBUF` <- a sealed packet. -/
def putTx (p : Packet) (s : State) : State := { s with txbuf := withChecksum p }

end Sys2Proof.Machine
end

