-- ==== Sys2Proof/Machine/Packets.lean ====
section
/-! DEFINITION. The packet builder (41_packets.md): the two 16-byte packets and the commands `BUILD_BIND`, `BUILD_DATA`. -/

namespace Sys2Proof.Machine

/-- The bind packet of R127 and R193, its checksum byte still 0. -/
def bindPacket (c : Config) (level channel : Byte) (session : Word) : Packet :=
  #v[level, channel,
    byteOf session 0, byteOf session 1, byteOf session 2, byteOf session 3,
    Param.bindMagic[0], Param.bindMagic[1], Param.bindMagic[2], Param.bindMagic[3], Param.bindMagic[4],
    byteOf c.txid 0, byteOf c.txid 1, byteOf c.txid 2, byteOf c.txid 3,
    0x00]

/-- The flight-control packet of R128 and R195, its checksum byte still 0. -/
def dataPacket (c : Config) (throttle rudder elevator aileron flags : Byte) : Packet :=
  (#v[Param.dataHeader, 0x00, throttle, 0x00, 255 - rudder, 0x00, 255 - elevator, 0x00,
    aileron, 0x00, 0x00, 0x00, 0x00, 0x00, 0x00, 0x00] : Packet).setIfInBounds c.flagsIndex flags

/-- `BuildBind(level)` of R193. -/
def buildBind (level : Byte) (s : State) : State :=
  putTx (bindPacket s.config level s.channel s.sessionId) s

/-- `BuildData` of R195. -/
def buildData (s : State) : State :=
  putTx (dataPacket s.config s.throttle s.rudder s.elevator s.aileron s.flags) s

/-- `BUILD_BIND` (R196). -/
def execBuildBind (s : State) : Host.Outcome State Fault Refusal := .next (buildBind s.arg0 s)

/-- `BUILD_DATA` (R197). -/
def execBuildData (s : State) : Host.Outcome State Fault Refusal := .next (buildData s)

end Sys2Proof.Machine
end

