-- ==== Sys2Proof/Machine/Data.lean ====
section
/-! DEFINITION. The cyclic data-link scheduler (44_data_scheduler.md): the data arm of `TICK`. -/

namespace Sys2Proof.Machine

/-- `Rebind()` of R291. -/
def rebind (s : State) : State :=
  { s with rebindReq := false, state := BindTx.bind1.code, restarts := 0x00, delayUs := 0x0000 }

/-- The state and delay a tick leaves (R11's `STATE <- s` and `DELAY_US <- d`). -/
def goto (b : Byte) (dly : Half) (s : State) : State := { s with state := b, delayUs := dly }

/-- The data step after `k` (R292). -/
def DataStep.succ : DataStep → DataStep
  | .data1 => .data2
  | .data2 => .data3
  | .data3 => .data4
  | .data4 => .data5
  | .data5 => .data1

/-- The transmit-power write of the cycle's first step (R293). -/
def applyPower (k : DataStep) (s : State) : State :=
  if k = .data1 then regWrite s.config.powerReg s.txpower s else s

/-- The channel of a step: the secondary one at `DATA_5` (R292). -/
def stepChannel (k : DataStep) (s : State) : Byte :=
  if k = .data5 then secondary s.channel else s.channel

/-- `TickFixed()` of R294. -/
def tickFixed (s : State) : State :=
  let s := buildData s
  let s := writePacket Param.pktLen s.channel s
  goto DataStep.data1.code s.config.dlyData s

/-- The cycled part of `TickData(s)` (R292). -/
def tickCycled (k : DataStep) (s : State) : State :=
  let s := applyPower k s
  let s := buildData s
  let s := writePacket Param.pktLen (stepChannel k s) s
  goto (DataStep.succ k).code s.config.dlyData s

/-- `TickData(s)` of R292. -/
def tickData (k : DataStep) (s : State) : State :=
  if s.rebindReq then rebind s
  else
    match s.config.dataMode with
    | .fixed => tickFixed s
    | .cycled => tickCycled k s

/-- The data arm (R292), for the step that the state byte selects. -/
def execTickData (k : DataStep) (s : State) : Host.Outcome State Fault Refusal := .next (tickData k s)

end Sys2Proof.Machine
end

