-- ==== Sys2Proof/Machine/Bind.lean ====
section
/-! DEFINITION. The bind handshake (43_bind.md): the arms of the tick-driven bind, the sequential bind, and the control
commands `NOP`, `ABORT`, `BIND_START`, `TICK`, `BIND_SEQ`. -/

namespace Sys2Proof.Machine

/-! ## The tick-driven bind -/

/-- `Level(s)` of R241. -/
def level : BindTx → Byte
  | .bind1 => 1
  | .bind3 => 3
  | .bind5 => 1
  | .bind7 => 9

/-- `TickBindTx(s)` of R250. -/
def tickBindTx (k : BindTx) (s : State) : State :=
  let s := buildBind (level k) s
  let s := strobe s.config.strobeStandby s
  let s := writePacket Param.pktLen s.channel s
  goto (k.code ||| waitWrite) s.config.dlyBindTx s

/-- `TickTxDone(s)` of R252. -/
def tickTxDone (k : BindTx) (s : State) : State :=
  let s := pollCompletion s.config.txdonePolls s
  let s := setPins false true s
  let s := strobe s.config.strobeRx s
  goto (k.code + 1) s.config.dlyTxdone s

/-- `BindFailure(target, dly)` of R256. -/
def bindFailure (target : BindTx) (dly : Half) (s : State) : State :=
  let s := { s with restarts := satSucc s.restarts }
  if s.config.bindMaxRestarts ≠ 0 ∧ s.config.bindMaxRestarts ≤ s.restarts.toNat then
    { s with state := Stopped.bindFailed.code, bfail := true, delayUs := 0x0000 }
  else goto target.code dly s

/-- The vehicle ID is programmed at `BIND_4` only (R254). -/
def programId (k : BindListen) (s : State) : State :=
  if k = .bind4 then setId (replyId s) s else s

/-- `TickListen(s)` of R254. -/
def tickListen (k : BindListen) (s : State) : State :=
  let (m, s) := regRead s.config.modeReg s
  if busy s.config m then bindFailure .bind1 s.config.dlyListenFail s
  else
    let s := readPacket Param.pktLen s
    let s := programId k s
    goto (k.code + 1) s.config.dlyListenOk s

/-- `Finalize()` of R260. -/
def finalize (s : State) : State :=
  let s := regWrite s.config.codeReg s.config.codeFecValue s
  let s := strobe s.config.strobeStandby s
  { s with state := DataStep.data1.code, restarts := 0x00 }

/-- `TickBind8()` of R258. -/
def tickBind8 (s : State) : State :=
  let (m, s) := regRead s.config.modeReg s
  if busy s.config m then bindFailure .bind7 s.config.dlyB8Fail s
  else
    let s := readPacket Param.pktLen s
    if s.rxbuf[1] = Param.completionCode then
      let s := finalize s
      { s with delayUs := s.config.dlyB8Ok }
    else goto BindTx.bind7.code s.config.dlyB8Fail s

/-- The transmit arm (R250), for the state that selects it. -/
def execTickBindTx (k : BindTx) (s : State) : Host.Outcome State Fault Refusal := .next (tickBindTx k s)

/-- The completion arm (R252), for the state that selects it. -/
def execTickTxDone (k : BindTx) (s : State) : Host.Outcome State Fault Refusal := .next (tickTxDone k s)

/-- The listen arm (R254), for the state that selects it. -/
def execTickListen (k : BindListen) (s : State) : Host.Outcome State Fault Refusal := .next (tickListen k s)

/-- The completion-code arm (R258). -/
def execTickBind8 (s : State) : Host.Outcome State Fault Refusal := .next (tickBind8 s)

/-- A `TICK` in `BIND_FAILED` or `IDLE` (R316). -/
def execTickBadState (_k : Stopped) (s : State) : Host.Outcome State Fault Refusal := .next (cmdError .badState s)

/-! ## The sequential bind -/

/-- What `Exchange()` returns (R264). -/
inductive Exchange where
  | ok
  | fail
deriving DecidableEq, Repr

/-- `ROUND` <- `ROUND` + 1 (R264). -/
def countRound (s : State) : State := { s with round := s.round + 1 }

/-- `Exchange()` of R264, for the attempts still left. -/
def exchange : Nat → State → Exchange × State
  | 0, s => (.fail, s)
  | k + 1, s =>
    let s := writePacket Param.pktLen s.channel s
    let s := strobe s.config.strobeRx s
    match pollBusy s.config.seqListenPolls s with
    | (.clear, s) => (.ok, countRound (readPacket Param.pktLen s))
    | (.timeout, s) => exchange k (strobe s.config.strobeStandby s)

/-- A step of `BIND_SEQ`: build a packet of that level and exchange it (R266). -/
def exchangeLevel (lvl : Byte) (s : State) : Exchange × State :=
  exchange s.config.seqMaxAttempts (buildBind lvl s)

/-- The level-9 packet of round `i`: the round number at `SEQ_BYTE_INDEX`, the checksum again (R266). -/
def buildRound (i : Nat) (s : State) : State :=
  let s := buildBind 9 s
  putTx (s.txbuf.setIfInBounds s.config.seqByteIndex (BitVec.ofNat 8 i)) s

/-- The level-9 rounds `i` onwards, `k` of them (R266 step 5). -/
def exchangeRounds : Nat → Nat → State → Exchange × State
  | 0, _, s => (.ok, s)
  | k + 1, i, s =>
    match exchange s.config.seqMaxAttempts (buildRound i s) with
    | (.ok, t) => exchangeRounds k (i + 1) t
    | (.fail, t) => (.fail, t)

/-- The end of a sequential bind that gave up (R266 `fail`). -/
def bindSeqFail (s : State) : State := { s with state := Stopped.bindFailed.code, bfail := true }

/-- The registers `BIND_SEQ` clears first (R266). -/
def bindSeqStart (s : State) : State :=
  { s with rebindReq := false, round := 0x00, restarts := 0x00, delayUs := 0x0000 }

/-- `BIND_SEQ` of R266. -/
def bindSeq (s : State) : State :=
  match exchangeLevel 1 (bindSeqStart s) with
  | (.fail, s) => bindSeqFail s
  | (.ok, s) =>
    match exchangeLevel 3 s with
    | (.fail, s) => bindSeqFail s
    | (.ok, s) =>
      match exchangeLevel 1 (setId (replyId s) s) with
      | (.fail, s) => bindSeqFail s
      | (.ok, s) =>
        match exchangeRounds Param.seqRounds 0 s with
        | (.fail, s) => bindSeqFail s
        | (.ok, s) => finalize s

/-- `BIND_SEQ` (R266). -/
def execBindSeq (s : State) : Host.Outcome State Fault Refusal := .next (bindSeq s)

/-! ## Control commands -/

/-- `NOP` (R243). -/
def execNop (s : State) : Host.Outcome State Fault Refusal := .next s

/-- `ABORT` (R244). -/
def execAbort (s : State) : Host.Outcome State Fault Refusal :=
  .next { s with state := Stopped.idle.code, rebindReq := false, delayUs := 0x0000 }

/-- `BIND_START` (R245). -/
def execBindStart (s : State) : Host.Outcome State Fault Refusal :=
  .next { s with state := BindTx.bind1.code, restarts := 0x00, rebindReq := false, delayUs := 0x0000 }

/-- An opcode with no command (R113, R312): it is not a `NOP`. -/
def execIllegalOpcode (_op : Byte) (s : State) : Host.Outcome State Fault Refusal :=
  .next (cmdError .illegalOpcode s)

/-- What an arm of `TICK` does (R246). -/
def runArm : TickArm → State → State
  | .bindTx k, s => tickBindTx k s
  | .txDone k, s => tickTxDone k s
  | .listen k, s => tickListen k s
  | .bind8, s => tickBind8 s
  | .data k, s => tickData k s
  | .stopped _, s => cmdError .badState s

/-- `TICK` (R246): the arm that `STATE` selects; a value no rule writes is the model's fault (R331). -/
def execTick (s : State) : Host.Outcome State Fault Refusal :=
  match selectArm s.state with
  | some arm => .next (runArm arm s)
  | none => .fault .unreachableState

end Sys2Proof.Machine
end

