-- ==== Sys2Proof/Machine/Scan.lean ====
section
/-! DEFINITION. The frequency-channel selector (42_channel_select.md): the command `SCAN`. -/

namespace Sys2Proof.Machine

/-- The table indices 0..`NUM_CHANNELS`-1, in order (R224). -/
def channelIndices : List (Fin 12) := [0, 1, 2, 3, 4, 5, 6, 7, 8, 9, 10, 11]

/-- `k` RSSI samples, added to `sum` (R222). -/
def sampleRssi : Nat → Nat → State → Nat × State
  | 0, sum, s => (sum, s)
  | k + 1, sum, s =>
    let (v, t) := regRead s.config.rssiReg s
    sampleRssi k (sum + v.toNat) t

/-- `RSSI_SUM[i]` <- `sum`, in 16 bits (R222). -/
def putRssi (i : Fin 12) (sum : Nat) (s : State) : State :=
  { s with rssiSum := s.rssiSum.set i (BitVec.ofNat 16 sum) }

/-- One channel of the scan: program it, strobe PLL then RX, sample, store the sum (R222, R224). -/
def scanChannel (s : State) (i : Fin 12) : State :=
  let s := regWrite s.config.channelReg s.config.channelTable[i] s
  let s := strobe s.config.strobePll s
  let s := strobe s.config.strobeRx s
  let (sum, t) := sampleRssi s.config.rssiSamples 0 s
  putRssi i sum t

/-- The index of the greatest sum, the lowest one on a tie: an update on strict inequality only (R223). -/
def bestChannel (sums : Vector Half 12) : Fin 12 :=
  channelIndices.foldl (fun best i => if sums[best] < sums[i] then i else best) 0

/-- The scan's result: `BEST_IDX` and `CHANNEL` (R224). -/
def selectChannel (s : State) : State :=
  { s with
    bestIdx := BitVec.ofNat 8 (bestChannel s.rssiSum).val
    channel := s.config.channelTable[bestChannel s.rssiSum] }

/-- `SCAN` (R224). -/
def execScan (s : State) : Host.Outcome State Fault Refusal :=
  .next (selectChannel (channelIndices.foldl scanChannel s))

end Sys2Proof.Machine
end

