-- ==== Sys2Proof/Machine/Transport.lean ====
section
/-! DEFINITION. The six transport commands (40_transport.md R160 to R165) and the SPI frames as instructions of their own
(30_encoding.md R115 to R119): what sending that one frame does. -/

namespace Sys2Proof.Machine

/-! ## Commands -/

/-- `REG_READ` (R160). -/
def execRegRead (s : State) : Host.Outcome State Fault Refusal :=
  if validAddr s.arg0 then
    let (v, t) := regRead s.arg0 s
    .next { t with rdata := v }
  else .next (cmdError .badAddr s)

/-- `REG_WRITE` (R161). -/
def execRegWrite (s : State) : Host.Outcome State Fault Refusal :=
  if validAddr s.arg0 then .next (regWrite s.arg0 s.arg1 s) else .next (cmdError .badAddr s)

/-- `STROBE` (R162). -/
def execStrobe (s : State) : Host.Outcome State Fault Refusal :=
  if validStrobe s.config s.arg0 then .next (strobe s.arg0 s) else .next (cmdError .badStrobe s)

/-- `SET_ID` (R163). -/
def execSetId (s : State) : Host.Outcome State Fault Refusal := .next (setId s.devId s)

/-- `FIFO_WRITE` (R164). -/
def execFifoWrite (s : State) : Host.Outcome State Fault Refusal :=
  if validLen s.arg0 then .next (writePacket s.arg0.toNat s.arg1 s) else .next (cmdError .badLen s)

/-- `FIFO_READ` (R165). -/
def execFifoRead (s : State) : Host.Outcome State Fault Refusal :=
  if validLen s.arg0 then .next (readPacket s.arg0.toNat s) else .next (cmdError .badLen s)

/-! ## Frames -/

/-- `SPI_READ` (R115): the frame of a register read; its value stands in the trace. The block sends no frame with an address
above `REG_ADDR_MAX` (R122). -/
def execSpiRead (a : BitVec 6) (s : State) : Host.Outcome State Fault Refusal :=
  if validAddr (addrByte a) then .next (regRead (addrByte a) s).2 else .refused .frameNeverSent

/-- `SPI_WRITE` (R116). -/
def execSpiWrite (a : BitVec 6) (v : Byte) (s : State) : Host.Outcome State Fault Refusal :=
  if validAddr (addrByte a) then .next (regWrite (addrByte a) v s) else .refused .frameNeverSent

/-- `SPI_BURST` (R117), of 1 to `FIFO_DEPTH` data bytes (R122). -/
def execSpiBurst (data : List Byte) (s : State) : Host.Outcome State Fault Refusal :=
  if 1 ≤ data.length ∧ data.length ≤ Param.fifoDepth then .next (burst data s) else .refused .frameNeverSent

/-- `SPI_ID` (R119): the block sends it by `SetId` only, which records the ID in `DEV_ID` (R49, R153). -/
def execSpiId (id : Word) (s : State) : Host.Outcome State Fault Refusal := .next (setId id s)

/-- `STROBE_SLEEP` (R118); every strobe frame is recorded in `LAST_STROBE` (R41, R152). -/
def execStrobeSleep (s : State) : Host.Outcome State Fault Refusal := .next (strobe s.config.strobeSleep s)

/-- `STROBE_IDLE` (R118). -/
def execStrobeIdle (s : State) : Host.Outcome State Fault Refusal := .next (strobe s.config.strobeIdle s)

/-- `STROBE_STANDBY` (R118). -/
def execStrobeStandby (s : State) : Host.Outcome State Fault Refusal := .next (strobe s.config.strobeStandby s)

/-- `STROBE_PLL` (R118). -/
def execStrobePll (s : State) : Host.Outcome State Fault Refusal := .next (strobe s.config.strobePll s)

/-- `STROBE_RX` (R118). -/
def execStrobeRx (s : State) : Host.Outcome State Fault Refusal := .next (strobe s.config.strobeRx s)

/-- `STROBE_TX` (R118). -/
def execStrobeTx (s : State) : Host.Outcome State Fault Refusal := .next (strobe s.config.strobeTx s)

/-- `STROBE_RST_WRPTR` (R118). -/
def execStrobeRstWrptr (s : State) : Host.Outcome State Fault Refusal := .next (strobe s.config.strobeRstWrptr s)

/-- `STROBE_RST_RDPTR` (R118). -/
def execStrobeRstRdptr (s : State) : Host.Outcome State Fault Refusal := .next (strobe s.config.strobeRstRdptr s)

end Sys2Proof.Machine
end

