-- ==== Sys2Proof/Machine/Dispatch.lean ====
section
/-! DEFINITION. The meaning of every instruction: one arm per constructor of `Instr`. -/

namespace Sys2Proof.Machine

def exec (i : Instr) (s : State) : Host.Outcome State Fault Refusal :=
  match i with
  | .nop => Sys2Proof.Machine.execNop s
  | .regRead => Sys2Proof.Machine.execRegRead s
  | .regWrite => Sys2Proof.Machine.execRegWrite s
  | .strobe => Sys2Proof.Machine.execStrobe s
  | .setId => Sys2Proof.Machine.execSetId s
  | .fifoWrite => Sys2Proof.Machine.execFifoWrite s
  | .fifoRead => Sys2Proof.Machine.execFifoRead s
  | .scan => Sys2Proof.Machine.execScan s
  | .buildBind => Sys2Proof.Machine.execBuildBind s
  | .buildData => Sys2Proof.Machine.execBuildData s
  | .bindStart => Sys2Proof.Machine.execBindStart s
  | .tick => Sys2Proof.Machine.execTick s
  | .bindSeq => Sys2Proof.Machine.execBindSeq s
  | .abort => Sys2Proof.Machine.execAbort s
  | .illegalOpcode op => Sys2Proof.Machine.execIllegalOpcode op s
  | .spiRead a => Sys2Proof.Machine.execSpiRead a s
  | .spiWrite a v => Sys2Proof.Machine.execSpiWrite a v s
  | .spiBurst data => Sys2Proof.Machine.execSpiBurst data s
  | .spiId id => Sys2Proof.Machine.execSpiId id s
  | .strobeSleep => Sys2Proof.Machine.execStrobeSleep s
  | .strobeIdle => Sys2Proof.Machine.execStrobeIdle s
  | .strobeStandby => Sys2Proof.Machine.execStrobeStandby s
  | .strobePll => Sys2Proof.Machine.execStrobePll s
  | .strobeRx => Sys2Proof.Machine.execStrobeRx s
  | .strobeTx => Sys2Proof.Machine.execStrobeTx s
  | .strobeRstWrptr => Sys2Proof.Machine.execStrobeRstWrptr s
  | .strobeRstRdptr => Sys2Proof.Machine.execStrobeRstRdptr s
  | .tickBindTx k => Sys2Proof.Machine.execTickBindTx k s
  | .tickTxDone k => Sys2Proof.Machine.execTickTxDone k s
  | .tickListen k => Sys2Proof.Machine.execTickListen k s
  | .tickBind8 => Sys2Proof.Machine.execTickBind8 s
  | .tickData k => Sys2Proof.Machine.execTickData k s
  | .tickBadState k => Sys2Proof.Machine.execTickBadState k s

end Sys2Proof.Machine
end

