-- ==== Sys2Proof/Machine/HostBus.lean ====
section
/-! DEFINITION. The host's side of the block: how its accesses are taken from `hostQueue` one at a time (20_memory.md R91,
R96), and which of them starts a command (R82, R93). -/

namespace Sys2Proof.Machine

/-- A host read: no side effect on the block (R92); the value returned goes to the host (log entry 7). -/
def hostRead (a : Byte) (s : State) : State := { s with hostReads := s.hostReads ++ [(a, memRead s a)] }

/-- The opcode that the next host access writes to `CMD`, and the state in which the command runs: the access taken, the
byte stored in `CMD` (R32, R82). None where the next access is another one, or there is none. -/
def fetchCommand (s : State) : Option (Byte × State) :=
  match s.hostQueue with
  | .write a v :: q => if hostByte a = .cmd then some (v, memWrite a v { s with hostQueue := q }) else none
  | _ => none

/-- Any other host access, whole (R82). With no access left the block waits for one: nothing changes (R352; log entry 6). -/
def serveAccess (s : State) : State :=
  match s.hostQueue with
  | [] => s
  | .read a :: q => hostRead a { s with hostQueue := q }
  | .write a v :: q => memWrite a v { s with hostQueue := q }

/-- The host writes `v` to `CMD` next. -/
def queueCommand (v : Byte) (s : State) : State := { s with hostQueue := .write 0x00 v :: s.hostQueue }

/-- The state in which the next step runs instruction `i`: a command is the host's next write of `CMD`; a frame is the
frame of a transport command whose operands are set; an arm is the arm that `STATE` selects at the next `TICK`
(log entry 11). -/
def loadInstr (i : Instr) (s : State) : State :=
  match i with
  | .nop => queueCommand 0x00 s
  | .regRead => queueCommand 0x01 s
  | .regWrite => queueCommand 0x02 s
  | .strobe => queueCommand 0x03 s
  | .setId => queueCommand 0x04 s
  | .fifoWrite => queueCommand 0x05 s
  | .fifoRead => queueCommand 0x06 s
  | .scan => queueCommand 0x07 s
  | .buildBind => queueCommand 0x08 s
  | .buildData => queueCommand 0x09 s
  | .bindStart => queueCommand 0x0A s
  | .tick => queueCommand 0x0B s
  | .bindSeq => queueCommand 0x0C s
  | .abort => queueCommand 0x0D s
  | .illegalOpcode op => queueCommand op s
  | .spiRead a => queueCommand 0x01 { s with arg0 := addrByte a }
  | .spiWrite a v => queueCommand 0x02 { s with arg0 := addrByte a, arg1 := v }
  | .spiBurst [v] => queueCommand 0x02 { s with arg0 := Param.fifoAddr, arg1 := v }
  | .spiBurst data =>
    queueCommand 0x05
      { s with
        arg0 := BitVec.ofNat 8 data.length
        txbuf := Vector.ofFn fun j : Fin 16 => data.getD j.val s.txbuf[j] }
  | .spiId id => queueCommand 0x04 { s with devId := id }
  | .strobeSleep => queueCommand 0x03 { s with arg0 := s.config.strobeSleep }
  | .strobeIdle => queueCommand 0x03 { s with arg0 := s.config.strobeIdle }
  | .strobeStandby => queueCommand 0x03 { s with arg0 := s.config.strobeStandby }
  | .strobePll => queueCommand 0x03 { s with arg0 := s.config.strobePll }
  | .strobeRx => queueCommand 0x03 { s with arg0 := s.config.strobeRx }
  | .strobeTx => queueCommand 0x03 { s with arg0 := s.config.strobeTx }
  | .strobeRstWrptr => queueCommand 0x03 { s with arg0 := s.config.strobeRstWrptr }
  | .strobeRstRdptr => queueCommand 0x03 { s with arg0 := s.config.strobeRstRdptr }
  | .tickBindTx k => queueCommand 0x0B { s with state := k.code }
  | .tickTxDone k => queueCommand 0x0B { s with state := k.code ||| waitWrite }
  | .tickListen k => queueCommand 0x0B { s with state := k.code }
  | .tickBind8 => queueCommand 0x0B { s with state := bind8Code }
  | .tickData k => queueCommand 0x0B { s with state := k.code }
  | .tickBadState k => queueCommand 0x0B { s with state := k.code }

end Sys2Proof.Machine
end

