-- ==== Sys2Proof/Machine/Step.lean ====
section
/-! DEFINITION. One step of the block: the host's next access, whole (20_memory.md R91, R96). -/

namespace Sys2Proof.Machine

/-- One host access. Parameters that break R9 are refused (00_scope.md R9). A write of `CMD` runs the command whose opcode
it is (30_encoding.md R111); every other access has the effect of 20_memory.md R82. -/
def step (s : State) : Host.Outcome State Fault Refusal :=
  if s.config.wf then
    match fetchCommand s with
    | some (op, t) => exec (decodeCommand op) t
    | none => .next (serveAccess s)
  else .refused .badConfig

/-- `s` with the instruction of a table word placed where the next step runs it (log entries 1, 9 and 11). -/
def State.withFetchWord (s : State) (nbits w : Nat) : State :=
  match decodeTableWord nbits w with
  | some i => loadInstr i s
  | none => s

end Sys2Proof.Machine
end

