-- ==== Sys2Proof/Safety.lean ====
section
/-! DEFINITION. The terms in which claims about the block are made: what one transmission, one reply, one poll, one
exchange and a sequential bind leave behind, and what a legal state of the block is. -/

namespace Sys2Proof.Machine

/-! ## What the bus sequences leave -/

/-- Frames sent one after the other, and nothing else (R150, R96). -/
def sendAll (frames : List (List Byte)) (s : State) : State := frames.foldl (fun t f => xfer f t) s

/-- The polls of R157 against mode bytes `m 0`, `m 1`, …: `p` of at most `k` reads were made, and they ended `late` (the
busy bit was set in all `k`) or at the first byte whose busy bit is clear. -/
def Polled (c : Config) (m : Nat → Byte) (k p : Nat) (late : Bool) : Prop :=
  if late then p = k ∧ ∀ i < k, busy c (m i) = true
  else 1 ≤ p ∧ p ≤ k ∧ (∀ i, i + 1 < p → busy c (m i) = true) ∧ busy c (m (p - 1)) = false

/-- The frames of a packet transmission before its polls (R155). -/
def packetFrames (c : Config) (data : List Byte) (ch : Byte) : List (List Byte) :=
  [[c.strobeRstWrptr], 0x05 :: data, [c.channelReg, ch], [c.strobeTx]]

/-- A poll of the mode register, as a frame (R115, R157). -/
def pollFrame (c : Config) : List Byte := [c.modeReg ||| 0x40, c.dummyByte]

/-- `t` is `s` after a packet of `n` bytes of `TXBUF` was transmitted on channel `ch` (R155): the frames of the packet, the
polls (none when `TX_POLL_MAX` is 0), one more transmission counted, `TXTO` set if the polls ran out, and the outputs back
to receive. -/
def Wrote (n : Nat) (ch : Byte) (s t : State) : Prop :=
  ∃ (p : Nat) (late : Bool),
    (if s.config.txPollMax = 0 then p = 0 ∧ late = false
     else Polled s.config (fun i => misoAt s (5 + n + 2 * i + 1)) s.config.txPollMax p late) ∧
    t = { sendAll (packetFrames s.config (s.txbuf.toList.take n) ch ++ List.replicate p (pollFrame s.config)) s with
          lastStrobe := s.config.strobeTx
          txcount := s.txcount + 1
          txto := s.txto || late
          txen := false
          rxen := true }

/-- `t` is `s` after `n` bytes were read back from the transceiver's FIFO (R156): a pointer reset, `n` READ frames of
`FIFO_ADDR`, their values in `RXBUF[0..n-1]` and the rest of `RXBUF` kept. -/
def ReadBack (n : Nat) (s t : State) : Prop :=
  t = { sendAll ([s.config.strobeRstRdptr] :: List.replicate n [0x45, s.config.dummyByte]) s with
        lastStrobe := s.config.strobeRstRdptr
        rxbuf := Vector.ofFn fun j : Fin 16 => if j.val < n then misoAt s (2 * j.val + 2) else s.rxbuf[j] }

/-! ## Packets as byte lists -/

/-- Fifteen bytes and their checksum (R126, R191). -/
def withCks (l : List Byte) : List Byte := l ++ [BitVec.ofNat 8 (256 - (l.map BitVec.toNat).sum % 256)]

/-- Bytes 0..14 of a bind packet (R127): `at1` is the channel, or the round number in the level-9 rounds. -/
def bindBytes (c : Config) (lvl at1 : Byte) (session : Word) : List Byte :=
  [lvl, at1] ++ be32 session ++ [0x08, 0xE4, 0xEA, 0x9E, 0x50] ++ be32 c.txid

/-- Bytes 0..14 of a flight-control packet (R128). -/
def dataBytes (s : State) : List Byte :=
  (List.range 15).map fun i =>
    if i = s.config.flagsIndex then s.flags
    else if i = 0 then 0x20
    else if i = 2 then s.throttle
    else if i = 4 then 255 - s.rudder
    else if i = 6 then 255 - s.elevator
    else if i = 8 then s.aileron
    else 0x00

/-! ## Ticks in a row -/

/-- The states after each of `n` `TICK` commands in a row; none if one of them stops. -/
def ticks : Nat → State → Option (List State)
  | 0, _ => some []
  | n + 1, s =>
    match exec .tick s with
    | .next t => (ticks n t).map (t :: ·)
    | _ => none

/-- The frames `t` has sent since `s`. -/
def newFrames (s t : State) : List Frame := t.trace.drop s.trace.length

/-- Every `MODE_REG` byte drawn between `s` and `t` has its busy bit clear (43_bind.md R272). -/
abbrev ModeClear (s t : State) : Prop :=
  ∀ f ∈ newFrames s t, f.mosi = pollFrame s.config → ∀ m ∈ f.miso[1]?, busy s.config m = false

/-- Every `MODE_REG` byte drawn between `s` and `t` has its busy bit set: the vehicle is silent (43_bind.md R268). -/
abbrev ModeBusy (s t : State) : Prop :=
  ∀ f ∈ newFrames s t, f.mosi = pollFrame s.config → ∀ m ∈ f.miso[1]?, busy s.config m = true

/-! ## The sequential bind -/

/-- `t` is `s` after one attempt of an exchange (R264): `TXBUF` transmitted on `CHANNEL`, `STROBE_RX`, and the listen polls,
which ended `late` or at a clear busy bit. -/
def Attempted (late : Bool) (s t : State) : Prop :=
  ∃ (w : State) (p : Nat), Wrote 16 s.channel s w ∧
    Polled s.config (fun i => misoAt w (1 + (2 * i + 1))) s.config.seqListenPolls p late ∧
    t = { sendAll ([s.config.strobeRx] :: List.replicate p (pollFrame s.config)) w with lastStrobe := s.config.strobeRx }

/-- `t` is `s` after `n` attempts in which no listen poll saw the busy bit clear, each followed by `STROBE_STANDBY` (R264). -/
def Unanswered : Nat → State → State → Prop
  | 0, s, t => t = s
  | n + 1, s, t => ∃ u, Attempted true s u ∧
      Unanswered n { sendAll [[s.config.strobeStandby]] u with lastStrobe := s.config.strobeStandby } t

/-- `t` is `s` after an exchange that ended well (R264): fewer than `SEQ_MAX_ATTEMPTS` attempts unanswered, the next one
answered, its reply read back, and `ROUND` counted. -/
def Answered (s t : State) : Prop :=
  ∃ (n : Nat) (u v w : State), n < s.config.seqMaxAttempts ∧ Unanswered n s u ∧ Attempted false u v ∧ ReadBack 16 v w ∧
    t = { w with round := w.round + 1 }

/-- The packet that exchange `n` of a sequential bind sends, the first being 0 (R266): levels 1, 3 and 1, then level 9 with
the round number at `SEQ_BYTE_INDEX`. -/
def seqPacket (s : State) (n : Nat) : List Byte :=
  match n with
  | 0 => withCks (bindBytes s.config 1 s.channel s.sessionId)
  | 1 => withCks (bindBytes s.config 3 s.channel s.sessionId)
  | 2 => withCks (bindBytes s.config 1 s.channel s.sessionId)
  | i + 3 => withCks ((bindBytes s.config 9 s.channel s.sessionId).set s.config.seqByteIndex (BitVec.ofNat 8 i))

/-- `t` is `s` ready for exchange `n` (R266): its packet stands in `TXBUF`, and before exchange 2 the vehicle ID is programmed
from bytes 2..5 of the reply in `RXBUF`. -/
def Readied (n : Nat) (s t : State) : Prop :=
  ∃ p : Packet, p.toList = seqPacket s n ∧
    t = { (if n = 2 then
            { sendAll [[0x06, s.rxbuf[2], s.rxbuf[3], s.rxbuf[4], s.rxbuf[5]]] s with
              devId := s.rxbuf[2] ++ s.rxbuf[3] ++ s.rxbuf[4] ++ s.rxbuf[5] }
          else s) with txbuf := p }

/-- `t` is `s` after the first `n` exchanges of a sequential bind, all ended well (R266). -/
def SeqAnswered : Nat → State → State → Prop
  | 0, s, t => t = s
  | n + 1, s, t => ∃ u v, SeqAnswered n s u ∧ Readied n u v ∧ Answered v t

/-- Exchange `n` of a sequential bind is the first that fails (R266, R268): the ones before ended well, and all its
`SEQ_MAX_ATTEMPTS` attempts, from `v` to `w`, went unanswered. -/
def SeqFailsAt (n : Nat) (s v w : State) : Prop :=
  ∃ u, SeqAnswered n s u ∧ Readied n u v ∧ Unanswered s.config.seqMaxAttempts v w

/-- `s` with the registers cleared that `BIND_SEQ` clears first (R266). -/
def seqStart (s : State) : State := { s with rebindReq := false, round := 0, restarts := 0, delayUs := 0 }

/-- The bursts among the frames sent between two states: those of 17 bytes, each a transmission of 16 (R117, R155). -/
def bursts (s t : State) : List (List Byte) := ((newFrames s t).map Frame.mosi).filter (·.length = 17)

/-- The frames of an exchange answered at once (R264): one poll after the packet, unless `TX_POLL_MAX` is 0, one listen poll,
and the reply read back. -/
def quickExchange (s : State) (n : Nat) : List (List Byte) :=
  packetFrames s.config (seqPacket s n) s.channel ++ List.replicate (min 1 s.config.txPollMax) (pollFrame s.config) ++
    [[s.config.strobeRx], pollFrame s.config, [s.config.strobeRstRdptr]] ++ List.replicate 16 [0x45, s.config.dummyByte]

/-! ## Legal states -/

/-- The state bytes that the block's rules write (R124). -/
def reachableStates : List Byte :=
  [0x00, 0x01, 0x02, 0x03, 0x04, 0x05, 0x06, 0x07, 0x08, 0x09, 0x0A, 0x0B, 0x0C, 0x0E, 0x0F, 0x80, 0x82, 0x84, 0x86]

/-- A frame of one of the five formats (R114, R122), with one byte received for each byte sent (R86). -/
def FrameLegal (c : Config) (f : Frame) : Prop :=
  f.miso.length = f.mosi.length ∧ ∃ i, decodeFrame c f.mosi = .ok i

/-- What holds between two host accesses, whatever the host does and the transceiver answers. -/
structure Legal (s : State) : Prop where
  /-- The parameters meet R9. -/
  config : s.config.wf = true
  /-- `STATE` holds one of the reachable values (R39, R124, R331). -/
  state : s.state ∈ reachableStates
  /-- `ERRCODE` holds 0x00 to 0x05, and 0x00 exactly when `STATUS.ERR` is clear (R38). -/
  errcode : s.errcode.toNat ≤ 5 ∧ (s.errcode = 0 ↔ s.err = false)
  /-- `LAST_STROBE` holds 0x00 or one of the eight codes (R315). -/
  lastStrobe : s.lastStrobe = 0 ∨ s.lastStrobe ∈ s.config.strobes
  /-- The outputs select receive (R42, R155). -/
  pins : s.txen = false ∧ s.rxen = true
  /-- `ROUND` holds 0 to 13 (R45). -/
  round : s.round.toNat ≤ 13
  /-- `BEST_IDX` holds a table index (R56). -/
  bestIdx : s.bestIdx.toNat ≤ 11
  /-- No RSSI sum exceeds its samples (R222). -/
  rssiSum : ∀ i : Fin 12, s.rssiSum[i].toNat ≤ 255 * s.config.rssiSamples
  /-- Every frame sent is one the block may send (R122). -/
  trace : ∀ f ∈ s.trace, FrameLegal s.config f

end Sys2Proof.Machine
end

