-- ==== Sys2Proof/Certificates/Slice0/Obligations.lean ====
section
/-! DEFINITION. The statements about the block, from the numbered rules of spec/: the host's accesses, encodings, each
command, frame and arm, and what holds over every step. -/

open Sys2Proof Sys2Proof.Machine

/-! ## The host's accesses -/

/-- 30_encoding.md R111: what a write of `v` to `CMD` runs, opcode by opcode. -/
def Obligations.WriteOfCmdExecutesItsOpcode : Prop :=
  ∀ (s : State) (v : Byte) (q : List HostAccess), s.config.wf = true → s.hostQueue = .write 0x00 v :: q →
    (v = 0x00 → step s = exec .nop { s with hostQueue := q, cmd := v }) ∧
    (v = 0x01 → step s = exec .regRead { s with hostQueue := q, cmd := v }) ∧
    (v = 0x02 → step s = exec .regWrite { s with hostQueue := q, cmd := v }) ∧
    (v = 0x03 → step s = exec .strobe { s with hostQueue := q, cmd := v }) ∧
    (v = 0x04 → step s = exec .setId { s with hostQueue := q, cmd := v }) ∧
    (v = 0x05 → step s = exec .fifoWrite { s with hostQueue := q, cmd := v }) ∧
    (v = 0x06 → step s = exec .fifoRead { s with hostQueue := q, cmd := v }) ∧
    (v = 0x07 → step s = exec .scan { s with hostQueue := q, cmd := v }) ∧
    (v = 0x08 → step s = exec .buildBind { s with hostQueue := q, cmd := v }) ∧
    (v = 0x09 → step s = exec .buildData { s with hostQueue := q, cmd := v }) ∧
    (v = 0x0A → step s = exec .bindStart { s with hostQueue := q, cmd := v }) ∧
    (v = 0x0B → step s = exec .tick { s with hostQueue := q, cmd := v }) ∧
    (v = 0x0C → step s = exec .bindSeq { s with hostQueue := q, cmd := v }) ∧
    (v = 0x0D → step s = exec .abort { s with hostQueue := q, cmd := v }) ∧
    (0x0E ≤ v.toNat → step s = .next { s with hostQueue := q, cmd := v, err := true, errcode := 0x01 })

/-- A step runs the decoded instruction: when the next host access writes `CMD`, the step is the meaning of the decoded
opcode, in the state with the access taken and the byte stored (20_memory.md R82). -/
def Obligations.StepRunsTheDecodedCommand : Prop :=
  ∀ (s : State) (v : Byte) (q : List HostAccess) (i : Instr), s.config.wf = true → s.hostQueue = .write 0x00 v :: q →
    decode s.config .command [v] = .ok i →
    i.wf = true ∧ step s = exec i { s with hostQueue := q, cmd := v }

/-- 30_encoding.md R125: the arm that `TICK` runs, for every value of `STATE`; a value of no arm is the model's fault. -/
def Obligations.TickRunsTheArmOfTheStateByte : Prop :=
  ∀ s : State,
    (s.state = 0x00 → exec .tick s = exec (.tickBindTx .bind1) s) ∧
    (s.state = 0x02 → exec .tick s = exec (.tickBindTx .bind3) s) ∧
    (s.state = 0x04 → exec .tick s = exec (.tickBindTx .bind5) s) ∧
    (s.state = 0x06 → exec .tick s = exec (.tickBindTx .bind7) s) ∧
    (s.state = 0x80 → exec .tick s = exec (.tickTxDone .bind1) s) ∧
    (s.state = 0x82 → exec .tick s = exec (.tickTxDone .bind3) s) ∧
    (s.state = 0x84 → exec .tick s = exec (.tickTxDone .bind5) s) ∧
    (s.state = 0x86 → exec .tick s = exec (.tickTxDone .bind7) s) ∧
    (s.state = 0x01 → exec .tick s = exec (.tickListen .bind2) s) ∧
    (s.state = 0x03 → exec .tick s = exec (.tickListen .bind4) s) ∧
    (s.state = 0x05 → exec .tick s = exec (.tickListen .bind6) s) ∧
    (s.state = 0x07 → exec .tick s = exec .tickBind8 s) ∧
    (s.state = 0x08 → exec .tick s = exec (.tickData .data1) s) ∧
    (s.state = 0x09 → exec .tick s = exec (.tickData .data2) s) ∧
    (s.state = 0x0A → exec .tick s = exec (.tickData .data3) s) ∧
    (s.state = 0x0B → exec .tick s = exec (.tickData .data4) s) ∧
    (s.state = 0x0C → exec .tick s = exec (.tickData .data5) s) ∧
    (s.state = 0x0E → exec .tick s = .next { s with err := true, errcode := 0x05 }) ∧
    (s.state = 0x0F → exec .tick s = .next { s with err := true, errcode := 0x05 }) ∧
    (s.state ∉ reachableStates → exec .tick s = .fault .unreachableState)

/-- `TICK` completes in every reachable state of a bind or the data phase (43_bind.md R246, 60_exceptions.md R330): it leaves
`STATE` reachable and not `IDLE`, raises no error, and keeps `RDATA`, `CHANNEL`, `ROUND`, `RSSI_SUM` and `BEST_IDX`. -/
def Obligations.TickCompletesInEveryActiveState : Prop :=
  ∀ s : State, s.state ∈ reachableStates → s.state ≠ 0x0E → s.state ≠ 0x0F →
    ∃ t, exec .tick s = .next t ∧ t.err = s.err ∧ t.errcode = s.errcode ∧ t.state ∈ reachableStates ∧ t.state ≠ 0x0F ∧
      t.rdata = s.rdata ∧ t.channel = s.channel ∧ t.round = s.round ∧ t.rssiSum = s.rssiSum ∧ t.bestIdx = s.bestIdx

/-- The register map of 10_state.md R31, as a host read sees it (20_memory.md R82). -/
def Obligations.HostReadReturnsTheMappedRegister : Prop :=
  ∀ s : State,
    memRead s 0x00 = s.cmd ∧ memRead s 0x01 = s.arg0 ∧ memRead s 0x02 = s.arg1 ∧ memRead s 0x03 = s.rdata ∧
    memRead s 0x05 = s.errcode ∧ memRead s 0x06 = s.state ∧ memRead s 0x07 = s.channel ∧
    memRead s 0x08 = s.lastStrobe ∧
    memRead s 0x09 = 0#6 ++ BitVec.ofBool s.rxen ++ BitVec.ofBool s.txen ∧
    memRead s 0x0A = 0#7 ++ BitVec.ofBool s.rebindReq ∧
    memRead s 0x0B = s.restarts ∧ memRead s 0x0C = s.round ∧ memRead s 0x0D = s.txcount ∧
    memRead s 0x0E ++ memRead s 0x0F = s.delayUs ∧
    memRead s 0x10 ++ memRead s 0x11 ++ memRead s 0x12 ++ memRead s 0x13 = s.sessionId ∧
    memRead s 0x14 ++ memRead s 0x15 ++ memRead s 0x16 ++ memRead s 0x17 = s.devId ∧
    memRead s 0x18 = s.throttle ∧ memRead s 0x19 = s.rudder ∧ memRead s 0x1A = s.elevator ∧ memRead s 0x1B = s.aileron ∧
    memRead s 0x1C = s.flags ∧ memRead s 0x1D = s.txpower ∧ memRead s 0x58 = s.bestIdx ∧
    (∀ i : Fin 16, memRead s (BitVec.ofNat 8 (0x20 + i.val)) = s.txbuf[i]) ∧
    (∀ i : Fin 16, memRead s (BitVec.ofNat 8 (0x30 + i.val)) = s.rxbuf[i]) ∧
    (∀ i : Fin 12, memRead s (BitVec.ofNat 8 (0x40 + 2 * i.val)) ++ memRead s (BitVec.ofNat 8 (0x41 + 2 * i.val)) =
      s.rssiSum[i])

/-- The `STATUS` byte (10_state.md R37, 20_memory.md R82): the sticky bits as stored, `BOUND` and `BINDING` from `STATE`. -/
def Obligations.StatusByteShowsTheStickyAndDerivedBits : Prop :=
  ∀ s : State, ∃ binding bound : Bool,
    memRead s 0x04 = 0#3 ++ BitVec.ofBool binding ++ BitVec.ofBool bound ++ BitVec.ofBool s.bfail ++
      BitVec.ofBool s.txto ++ BitVec.ofBool s.err ∧
    (bound = true ↔ s.state ∈ [0x08, 0x09, 0x0A, 0x0B, 0x0C]) ∧
    (binding = true ↔ s.state &&& 0x7F ∈ [0x00, 0x01, 0x02, 0x03, 0x04, 0x05, 0x06, 0x07])

/-- 20_memory.md R92 and R82: a host read takes one step, returns the register, and changes nothing of the block. -/
def Obligations.HostReadHasNoSideEffect : Prop :=
  ∀ (s : State) (a : Byte) (q : List HostAccess), s.config.wf = true → s.hostQueue = .read a :: q →
    step s = .next { s with hostQueue := q, hostReads := s.hostReads ++ [(a, memRead s a)] }

/-- A host write of an RW register (10_state.md R31, R32): the byte written reads back, every other address reads as
before, and nothing happens on the bus. -/
def Obligations.HostWriteStoresOneByte : Prop :=
  ∀ (s : State) (a v : Byte) (q : List HostAccess), s.config.wf = true → s.hostQueue = .write a v :: q →
    (a = 0x01 ∨ a = 0x02 ∨ a = 0x07 ∨ (0x10 ≤ a.toNat ∧ a.toNat ≤ 0x1D) ∨ (0x20 ≤ a.toNat ∧ a.toNat ≤ 0x2F)) →
    ∃ t, step s = .next t ∧ memRead t a = v ∧ (∀ b, b ≠ a → memRead t b = memRead s b) ∧
      t.config = s.config ∧ t.trace = s.trace ∧ t.misoQueue = s.misoQueue ∧ t.draws = s.draws ∧
      t.hostQueue = q ∧ t.hostReads = s.hostReads

/-- A host write of an RO register is ignored (10_state.md R32). -/
def Obligations.HostWriteOfReadOnlyIsIgnored : Prop :=
  ∀ (s : State) (a v : Byte) (q : List HostAccess), s.config.wf = true → s.hostQueue = .write a v :: q →
    (a = 0x03 ∨ a = 0x05 ∨ a = 0x06 ∨ a = 0x08 ∨ a = 0x09 ∨ (0x0B ≤ a.toNat ∧ a.toNat ≤ 0x0F) ∨
      (0x30 ≤ a.toNat ∧ a.toNat ≤ 0x58)) →
    step s = .next { s with hostQueue := q }

/-- 10_state.md R57: reserved addresses and reserved bits read 0 and ignore writes. -/
def Obligations.ReservedReadsZeroAndIgnoresWrites : Prop :=
  ∀ (s : State) (a v : Byte),
    (a = 0x1E ∨ a = 0x1F ∨ 0x59 ≤ a.toNat → memRead s a = 0x00 ∧ memWrite a v s = s) ∧
    memRead s 0x04 &&& 0xE0 = 0x00 ∧ memWrite 0x04 v s = memWrite 0x04 (v &&& 0x1F) s ∧
    memRead s 0x09 &&& 0xFC = 0x00 ∧ memWrite 0x09 v s = s ∧
    memRead s 0x0A &&& 0xFE = 0x00 ∧ memWrite 0x0A v s = memWrite 0x0A (v &&& 0x01) s

/-- 20_memory.md R82, the rows `STATUS` and `CTRL`: write one to clear, `ERRCODE` cleared with `ERR`; `REBIND_REQ` stored. -/
def Obligations.StatusAndCtrlWrites : Prop :=
  ∀ (s : State) (v : Byte) (q : List HostAccess), s.config.wf = true →
    (s.hostQueue = .write 0x04 v :: q →
      step s = .next { s with
        hostQueue := q
        err := if v.getLsbD 0 then false else s.err
        errcode := if v.getLsbD 0 then 0x00 else s.errcode
        txto := if v.getLsbD 1 then false else s.txto
        bfail := if v.getLsbD 2 then false else s.bfail }) ∧
    (s.hostQueue = .write 0x0A v :: q → step s = .next { s with hostQueue := q, rebindReq := v.getLsbD 0 })

/-- The model's choice of log entry 6: with no host access to come, the block waits and nothing changes (it rests on
70_reset_and_hazards.md R352: after reset the block waits for the first host access). -/
def Obligations.BlockWaitsForTheHost : Prop :=
  ∀ s : State, s.config.wf = true → s.hostQueue = [] → step s = .next s

/-! ## Reset and parameters -/

/-- 70_reset_and_hazards.md R351: what every host address reads after reset, the outputs and the trace. -/
def Obligations.ResetRegisterValues : Prop :=
  (∀ a : Byte, memRead State.reset a =
    if a = 0x06 then 0x0F
    else if a = 0x09 then 0x02
    else if a = 0x19 ∨ a = 0x1A ∨ a = 0x1B then 0x80
    else 0x00) ∧
  State.reset.txen = false ∧ State.reset.rxen = true ∧ State.reset.trace = []

/-- 00_scope.md R9: a configuration that breaks one of its constraints is refused (`SEQ_MAX_ATTEMPTS`, the delays and the
table's length cannot break theirs: their types hold them), and this hardware's is not. -/
def Obligations.BrokenParametersAreRefused : Prop :=
  (∀ s : State,
    (s.config.flagsIndex ∉ [1, 3, 5, 7, 9, 10, 11, 12, 13, 14] ∨
      ¬(1 ≤ s.config.seqByteIndex ∧ s.config.seqByteIndex ≤ 14) ∨
      ¬(1 ≤ s.config.rssiSamples ∧ s.config.rssiSamples ≤ 257) ∨
      ¬s.config.txPollMax ≤ 255 ∨
      ¬(1 ≤ s.config.txdonePolls ∧ s.config.txdonePolls ≤ 255) ∨
      ¬(1 ≤ s.config.seqListenPolls ∧ s.config.seqListenPolls ≤ 255) ∨
      ¬s.config.bindMaxRestarts ≤ 255 ∨
      ¬s.config.strobes.Nodup ∨
      (∃ b ∈ s.config.strobes, b.getLsbD 7 = false)) →
    step s = .refused .badConfig) ∧
  (∀ c : Config, 1 ≤ c.seqMaxAttempts ∧ c.seqMaxAttempts ≤ 255 ∧ c.channelTable.toList.length = Param.numChannels ∧
    c.dlyData.toNat ≤ 65535 ∧ c.dlyBindTx.toNat ≤ 65535 ∧ c.dlyTxdone.toNat ≤ 65535 ∧ c.dlyListenFail.toNat ≤ 65535 ∧
    c.dlyListenOk.toNat ≤ 65535 ∧ c.dlyB8Fail.toNat ≤ 65535 ∧ c.dlyB8Ok.toNat ≤ 65535) ∧
  Config.hardware.wf = true

/-- 70_reset_and_hazards.md R353: no step changes the parameters, reset leaves them as built, and no read shows them. -/
def Obligations.ParametersAreFixed : Prop :=
  (∀ s t : State, step s = .next t → t.config = s.config) ∧
  State.reset.config = Config.hardware ∧
  (∀ (s : State) (c : Config) (a : Byte), memRead { s with config := c } a = memRead s a)

/-! ## Encodings -/

/-- Decoding what was encoded gives the instruction back, for every well-formed instruction of all three code spaces, but
for the one frame with two names: a WRITE of `FIFO_ADDR` has the bytes of a one-byte burst and the same meaning
(30_encoding.md R116). -/
def Obligations.DecodeOfEncodeIsTheInstruction : Prop :=
  ∀ (c : Config) (i : Instr), c.wf = true → i.wf = true →
    ((∀ v, i ≠ .spiWrite 0x05 v) → decode c i.space (encode c i) = .ok i) ∧
    (∀ v, i = .spiWrite 0x05 v →
      decode c i.space (encode c i) = .ok (.spiBurst [v]) ∧ ∀ s, exec i s = exec (.spiBurst [v]) s)

/-- No two byte strings of a code space decode to one instruction: what decodes, encodes back to the same bytes, and is
well formed (30_encoding.md R114 to R122, R124). -/
def Obligations.EncodeOfDecodeIsTheBytes : Prop :=
  ∀ (c : Config) (sp : Space) (bytes : List Byte) (i : Instr), decode c sp bytes = .ok i →
    i.wf = true ∧ i.space = sp ∧ encode c i = bytes

/-- Words written out from the encoding tables (30_encoding.md R112, R115 to R119, R124, R125) decode to the instructions
they stand for, with this hardware's parameters. -/
def Obligations.WordsOfTheTablesDecode : Prop :=
  decode Config.hardware .command [0b00001011] = .ok .tick ∧
  decode Config.hardware .command [0b00001110] = .ok (.illegalOpcode 0x0E) ∧
  decode Config.hardware .frame [0b01110010, 0x00] = .ok (.spiRead 0x32) ∧
  decode Config.hardware .frame [0b00001111, 0x14] = .ok (.spiWrite 0x0F 0x14) ∧
  decode Config.hardware .frame [0b00000110, 0x12, 0x34, 0x56, 0x78] = .ok (.spiId 0x12345678) ∧
  decode Config.hardware .frame [0b00000101, 0xAA, 0xBB] = .ok (.spiBurst [0xAA, 0xBB]) ∧
  decode Config.hardware .frame [0b10100000] = .ok .strobeStandby ∧
  decode Config.hardware .frame [0b10000101] = .error .noStrobeCode ∧
  decode Config.hardware .frame [0b01110011, 0x00] = .error .addressAboveMax ∧
  decode Config.hardware .state [0b10000100] = .ok (.tickTxDone .bind5) ∧
  decode Config.hardware .state [0b00001101] = .error .unreachableState

/-! ## Frames -/

/-- 30_encoding.md R115: the READ frame; MISO byte 1 is drawn with it and stands in the trace. -/
def Obligations.ReadFrameIsSent : Prop :=
  ∀ (a : BitVec 6) (s : State), a.toNat ≤ 0x32 →
    exec (.spiRead a) s = .next { s with
      trace := s.trace ++ [⟨[0b01#2 ++ a, s.config.dummyByte], [misoAt s 0, misoAt s 1]⟩]
      misoQueue := s.misoQueue.drop 2
      draws := s.draws + 2 }

/-- 30_encoding.md R116: the WRITE frame; to `FIFO_ADDR` it means the same as a burst of one byte. -/
def Obligations.WriteFrameIsSent : Prop :=
  (∀ (a : BitVec 6) (v : Byte) (s : State), a.toNat ≤ 0x32 →
    exec (.spiWrite a v) s = .next { s with
      trace := s.trace ++ [⟨[0b00#2 ++ a, v], [misoAt s 0, misoAt s 1]⟩]
      misoQueue := s.misoQueue.drop 2
      draws := s.draws + 2 }) ∧
  (∀ (v : Byte) (s : State), exec (.spiWrite 0x05 v) s = exec (.spiBurst [v]) s)

/-- 30_encoding.md R117: the burst. -/
def Obligations.BurstFrameIsSent : Prop :=
  ∀ (data : List Byte) (s : State), 1 ≤ data.length → data.length ≤ 16 →
    exec (.spiBurst data) s = .next { s with
      trace := s.trace ++ [⟨0x05 :: data, (List.range (data.length + 1)).map (misoAt s)⟩]
      misoQueue := s.misoQueue.drop (data.length + 1)
      draws := s.draws + (data.length + 1) }

/-- 40_transport.md R153: the ID frame, recorded in `DEV_ID`. -/
def Obligations.IdFrameIsSentAndRecorded : Prop :=
  ∀ (id : Word) (s : State),
    exec (.spiId id) s = .next { s with
      devId := id
      trace := s.trace ++ [⟨[0x06, id.extractLsb' 24 8, id.extractLsb' 16 8, id.extractLsb' 8 8, id.extractLsb' 0 8],
        [misoAt s 0, misoAt s 1, misoAt s 2, misoAt s 3, misoAt s 4]⟩]
      misoQueue := s.misoQueue.drop 5
      draws := s.draws + 5 }

/-- 40_transport.md R152: the eight strobe frames, each recorded in `LAST_STROBE`. -/
def Obligations.StrobeFramesAreSentAndRecorded : Prop :=
  ∀ (s : State) (i : Instr) (code : Byte),
    (i, code) ∈ [(Instr.strobeSleep, s.config.strobeSleep), (.strobeIdle, s.config.strobeIdle),
      (.strobeStandby, s.config.strobeStandby), (.strobePll, s.config.strobePll), (.strobeRx, s.config.strobeRx),
      (.strobeTx, s.config.strobeTx), (.strobeRstWrptr, s.config.strobeRstWrptr),
      (.strobeRstRdptr, s.config.strobeRstRdptr)] →
    exec i s = .next { s with
      lastStrobe := code
      trace := s.trace ++ [⟨[code], [misoAt s 0]⟩]
      misoQueue := s.misoQueue.drop 1
      draws := s.draws + 1 }

/-- The model's stop of log entry 13, on frames 30_encoding.md R122 says the block never sends. -/
def Obligations.FramesNeverSentAreRefused : Prop :=
  ∀ s : State,
    (∀ a : BitVec 6, 0x33 ≤ a.toNat → exec (.spiRead a) s = .refused .frameNeverSent) ∧
    (∀ (a : BitVec 6) (v : Byte), 0x33 ≤ a.toNat → exec (.spiWrite a v) s = .refused .frameNeverSent) ∧
    (∀ data : List Byte, data = [] ∨ 16 < data.length → exec (.spiBurst data) s = .refused .frameNeverSent)

/-! ## Transport commands -/

/-- 40_transport.md R160: `REG_READ`. -/
def Obligations.RegReadLatchesTheDrawnByte : Prop :=
  ∀ s : State,
    (s.arg0.toNat ≤ 0x32 → exec .regRead s = .next { s with
      rdata := misoAt s 1
      trace := s.trace ++ [⟨[s.arg0 ||| 0x40, s.config.dummyByte], [misoAt s 0, misoAt s 1]⟩]
      misoQueue := s.misoQueue.drop 2
      draws := s.draws + 2 }) ∧
    (0x32 < s.arg0.toNat → exec .regRead s = .next { s with err := true, errcode := 0x02 })

/-- 40_transport.md R161: `REG_WRITE`. -/
def Obligations.RegWriteSendsTheDataByte : Prop :=
  ∀ s : State,
    (s.arg0.toNat ≤ 0x32 → exec .regWrite s = .next { s with
      trace := s.trace ++ [⟨[s.arg0, s.arg1], [misoAt s 0, misoAt s 1]⟩]
      misoQueue := s.misoQueue.drop 2
      draws := s.draws + 2 }) ∧
    (0x32 < s.arg0.toNat → exec .regWrite s = .next { s with err := true, errcode := 0x02 })

/-- 40_transport.md R162: `STROBE`. -/
def Obligations.StrobeSendsItsCode : Prop :=
  ∀ s : State,
    (s.arg0 ∈ s.config.strobes → exec .strobe s = .next { s with
      lastStrobe := s.arg0
      trace := s.trace ++ [⟨[s.arg0], [misoAt s 0]⟩]
      misoQueue := s.misoQueue.drop 1
      draws := s.draws + 1 }) ∧
    (s.arg0 ∉ s.config.strobes → exec .strobe s = .next { s with err := true, errcode := 0x04 })

/-- 40_transport.md R163: `SET_ID`; `DEV_ID` is rewritten with its own value. -/
def Obligations.SetIdSendsTheDeviceId : Prop :=
  ∀ s : State,
    exec .setId s = .next { s with
      trace := s.trace ++ [⟨[0x06, s.devId.extractLsb' 24 8, s.devId.extractLsb' 16 8, s.devId.extractLsb' 8 8,
        s.devId.extractLsb' 0 8], [misoAt s 0, misoAt s 1, misoAt s 2, misoAt s 3, misoAt s 4]⟩]
      misoQueue := s.misoQueue.drop 5
      draws := s.draws + 5 }

/-- 40_transport.md R155 and R164: `FIFO_WRITE` transmits `TXBUF[0..n-1]` on the channel of `ARG1`. -/
def Obligations.FifoWriteTransmitsThePacket : Prop :=
  ∀ s : State,
    (1 ≤ s.arg0.toNat ∧ s.arg0.toNat ≤ 16 → ∃ t, exec .fifoWrite s = .next t ∧ Wrote s.arg0.toNat s.arg1 s t) ∧
    (s.arg0.toNat = 0 ∨ 16 < s.arg0.toNat → exec .fifoWrite s = .next { s with err := true, errcode := 0x03 })

/-- 40_transport.md R156 and R165: `FIFO_READ` fills `RXBUF[0..n-1]` and keeps the rest. -/
def Obligations.FifoReadFillsTheReplyBuffer : Prop :=
  ∀ s : State,
    (1 ≤ s.arg0.toNat ∧ s.arg0.toNat ≤ 16 → ∃ t, exec .fifoRead s = .next t ∧ ReadBack s.arg0.toNat s t) ∧
    (s.arg0.toNat = 0 ∨ 16 < s.arg0.toNat → exec .fifoRead s = .next { s with err := true, errcode := 0x03 })

/-- 40_transport.md R157: `PollBusy(k)` reads until the first clear busy bit, at most `k` times. -/
def Obligations.PollReadsUntilTheFirstClearBusyBit : Prop :=
  ∀ (k : Nat) (s : State), 1 ≤ k →
    (∀ n, 1 ≤ n → n ≤ k → busy s.config (misoAt s (2 * n - 1)) = false →
      (∀ i, 1 ≤ i → i < n → busy s.config (misoAt s (2 * i - 1)) = true) →
      pollBusy k s = (.clear, sendAll (List.replicate n [s.config.modeReg ||| 0x40, s.config.dummyByte]) s)) ∧
    ((∀ i, 1 ≤ i → i ≤ k → busy s.config (misoAt s (2 * i - 1)) = true) →
      pollBusy k s = (.timeout, sendAll (List.replicate k [s.config.modeReg ||| 0x40, s.config.dummyByte]) s))

/-! ## Packets -/

/-- 41_packets.md R193 and R196: `BUILD_BIND`. -/
def Obligations.BuildBindWritesTheBindPacket : Prop :=
  ∀ s : State, ∃ p : Packet, p.toList = withCks (bindBytes s.config s.arg0 s.channel s.sessionId) ∧
    exec .buildBind s = .next { s with txbuf := p }

/-- 41_packets.md R195 and R197: `BUILD_DATA`. -/
def Obligations.BuildDataWritesTheFlightControlPacket : Prop :=
  ∀ s : State, ∃ p : Packet, p.toList = withCks (dataBytes s) ∧ exec .buildData s = .next { s with txbuf := p }

/-- 41_packets.md R192: the sixteen bytes of every packet the block builds sum to 0 modulo 256: a bind packet of any
level, a flight-control packet, a packet of the level-9 rounds. -/
def Obligations.BuiltPacketsSumToZero : Prop :=
  ∀ (s : State) (lvl : Byte) (i : Nat),
    ((buildBind lvl s).txbuf.toList.map BitVec.toNat).sum % 256 = 0 ∧
    ((buildData s).txbuf.toList.map BitVec.toNat).sum % 256 = 0 ∧
    ((buildRound i s).txbuf.toList.map BitVec.toNat).sum % 256 = 0

/-- 41_packets.md R198: two builds with what they read unchanged give the same sixteen bytes, whatever happened between. -/
def Obligations.BuildsAreIdempotent : Prop :=
  ∀ s t u v : State, t.config = s.config →
    (exec .buildData s = .next u → exec .buildData t = .next v →
      t.throttle = s.throttle → t.rudder = s.rudder → t.elevator = s.elevator → t.aileron = s.aileron →
      t.flags = s.flags → v.txbuf = u.txbuf) ∧
    (exec .buildBind s = .next u → exec .buildBind t = .next v →
      t.arg0 = s.arg0 → t.channel = s.channel → t.sessionId = s.sessionId → v.txbuf = u.txbuf)

/-! ## The channel selector -/

/-- 42_channel_select.md R222 and R224: what `SCAN` sends, the sums it stores, and the channel it picks. -/
def Obligations.ScanSumsEveryChannelAndPicksOne : Prop :=
  ∀ s : State, s.config.wf = true → ∃ (best : Fin 12) (t : State),
    exec .scan s = .next t ∧
    t = { sendAll ((List.finRange 12).flatMap fun i =>
            [s.config.channelReg, s.config.channelTable[i]] :: [s.config.strobePll] :: [s.config.strobeRx] ::
              List.replicate s.config.rssiSamples [s.config.rssiReg ||| 0x40, s.config.dummyByte]) s with
          lastStrobe := s.config.strobeRx
          rssiSum := t.rssiSum
          bestIdx := BitVec.ofNat 8 best.val
          channel := s.config.channelTable[best] } ∧
    (∀ i : Fin 12, t.rssiSum[i].toNat =
      ((List.range s.config.rssiSamples).map fun k =>
        (misoAt s (i.val * (4 + 2 * s.config.rssiSamples) + 4 + 2 * k + 1)).toNat).sum) ∧
    (∀ i : Fin 12, t.rssiSum[i] ≤ t.rssiSum[best]) ∧
    (∀ i : Fin 12, i < best → t.rssiSum[i] < t.rssiSum[best])

/-- 42_channel_select.md R223: the chosen index is the least one whose sum is the maximum. -/
def Obligations.SelectionKeepsTheLowestMaximalIndex : Prop :=
  ∀ sums : Vector Half 12,
    (∀ i : Fin 12, sums[i] ≤ sums[bestChannel sums]) ∧
    (∀ i : Fin 12, (∀ j : Fin 12, sums[j] ≤ sums[i]) → bestChannel sums ≤ i) ∧
    ((∀ i j : Fin 12, sums[i] = sums[j]) → bestChannel sums = 0)

/-! ## Control commands -/

/-- 43_bind.md R243, R244, R245 and 60_exceptions.md R312: `NOP`, `ABORT`, `BIND_START`, and an illegal opcode. -/
def Obligations.ControlCommandsWriteOnlyTheirRegisters : Prop :=
  ∀ (s : State) (op : Byte),
    exec .nop s = .next s ∧
    exec .abort s = .next { s with state := 0x0F, rebindReq := false, delayUs := 0 } ∧
    exec .bindStart s = .next { s with state := 0x00, restarts := 0, rebindReq := false, delayUs := 0 } ∧
    exec (.illegalOpcode op) s = .next { s with err := true, errcode := 0x01 }

/-- 60_exceptions.md R316: a `TICK` in `IDLE` or `BIND_FAILED` raises `BAD_STATE` and does nothing else. -/
def Obligations.TickOutsideASessionIsBadState : Prop :=
  ∀ (s : State) (k : Stopped),
    exec (.tickBadState k) s = .next { s with err := true, errcode := 0x05 } ∧
    (s.state = 0x0F ∨ s.state = 0x0E → exec .tick s = .next { s with err := true, errcode := 0x05 })

/-! ## The tick-driven bind -/

/-- 43_bind.md R250 with the levels of R241: the transmit arm. -/
def Obligations.TransmitArmSendsTheBindPacket : Prop :=
  ∀ (s : State) (k : BindTx) (lvl before after : Byte),
    (k, lvl, before, after) ∈ [(BindTx.bind1, 1, 0x00, 0x80), (.bind3, 3, 0x02, 0x82), (.bind5, 1, 0x04, 0x84),
      (.bind7, 9, 0x06, 0x86)] →
    ∃ (p : Packet) (t : State),
      p.toList = withCks (bindBytes s.config lvl s.channel s.sessionId) ∧
      Wrote 16 s.channel
        { sendAll [[s.config.strobeStandby]] s with lastStrobe := s.config.strobeStandby, txbuf := p } t ∧
      exec (.tickBindTx k) s = .next { t with state := after, delayUs := s.config.dlyBindTx } ∧
      (s.state = before → exec .tick s = exec (.tickBindTx k) s)

/-- 43_bind.md R252: the completion arm advances whether or not its poll ran out. -/
def Obligations.CompletionArmSwitchesToReceive : Prop :=
  ∀ (s : State) (k : BindTx) (before after : Byte), s.config.wf = true →
    (k, before, after) ∈ [(BindTx.bind1, 0x80, 0x01), (.bind3, 0x82, 0x03), (.bind5, 0x84, 0x05), (.bind7, 0x86, 0x07)] →
    ∃ (p : Nat) (late : Bool),
      Polled s.config (fun i => misoAt s (2 * i + 1)) s.config.txdonePolls p late ∧
      exec (.tickTxDone k) s = .next
        { sendAll (List.replicate p (pollFrame s.config) ++ [[s.config.strobeRx]]) s with
          txto := s.txto || late
          txen := false
          rxen := true
          lastStrobe := s.config.strobeRx
          state := after
          delayUs := s.config.dlyTxdone } ∧
      (s.state = before → exec .tick s = exec (.tickTxDone k) s)

/-- What one failed listen leaves (43_bind.md R256): `RESTARTS` counts it, saturating; a bound other than 0 that it reaches
ends the bind in `BIND_FAILED`, otherwise the bind goes on at `target`. -/
def Obligations.FailedListenRestartsOrGivesUp : Prop :=
  ∀ (s : State) (target : BindTx) (dly : Half) (n : Nat), n = min (s.restarts.toNat + 1) 255 →
    (s.config.bindMaxRestarts = 0 ∨ n < s.config.bindMaxRestarts →
      bindFailure target dly s = { s with
        restarts := BitVec.ofNat 8 n, state := target.code, delayUs := dly }) ∧
    (s.config.bindMaxRestarts ≠ 0 → s.config.bindMaxRestarts ≤ n →
      bindFailure target dly s = { s with
        restarts := BitVec.ofNat 8 n, state := 0x0E, bfail := true, delayUs := 0 })

/-- 43_bind.md R254: the listen arm. A busy mode register fails the bind back to `BIND_1`; otherwise the reply is read, and
at `BIND_4` its bytes 2..5 are programmed as the vehicle ID. -/
def Obligations.ListenArmReadsTheReply : Prop :=
  ∀ (s : State) (k : BindListen),
    (busy s.config (misoAt s 1) = true →
      exec (.tickListen k) s = .next (bindFailure .bind1 s.config.dlyListenFail (sendAll [pollFrame s.config] s))) ∧
    (busy s.config (misoAt s 1) = false →
      ∃ t, ReadBack 16 (sendAll [pollFrame s.config] s) t ∧
        (k = .bind2 → exec (.tickListen k) s = .next { t with state := 0x02, delayUs := s.config.dlyListenOk }) ∧
        (k = .bind4 → exec (.tickListen k) s = .next
          { sendAll [[0x06, t.rxbuf[2], t.rxbuf[3], t.rxbuf[4], t.rxbuf[5]]] t with
            devId := t.rxbuf[2] ++ t.rxbuf[3] ++ t.rxbuf[4] ++ t.rxbuf[5]
            state := 0x04
            delayUs := s.config.dlyListenOk }) ∧
        (k = .bind6 → exec (.tickListen k) s = .next { t with state := 0x06, delayUs := s.config.dlyListenOk }))

/-- 43_bind.md R258 and R260: the completion-code arm. -/
def Obligations.CompletionCodeEndsTheBind : Prop :=
  ∀ s : State,
    (busy s.config (misoAt s 1) = true →
      exec .tickBind8 s = .next (bindFailure .bind7 s.config.dlyB8Fail (sendAll [pollFrame s.config] s))) ∧
    (busy s.config (misoAt s 1) = false →
      ∃ t, ReadBack 16 (sendAll [pollFrame s.config] s) t ∧
        (t.rxbuf[1] ≠ 9 → exec .tickBind8 s = .next { t with state := 0x06, delayUs := s.config.dlyB8Fail }) ∧
        (t.rxbuf[1] = 9 → exec .tickBind8 s = .next
          { sendAll [[s.config.codeReg, s.config.codeFecValue], [s.config.strobeStandby]] t with
            lastStrobe := s.config.strobeStandby
            state := 0x08
            restarts := 0
            delayUs := s.config.dlyB8Ok }))

/-- 43_bind.md R274: the shortest tick-driven bind: twelve ticks through the states named, four transmissions (levels 1, 3,
1, 9), and the one ID frame, in the sixth tick. -/
def Obligations.ShortestBindTakesTwelveTicks : Prop :=
  ∀ (s : State), s.config.wf = true → s.state = 0x00 →
    ∃ ts : List State, ticks 12 s = some ts ∧
      ∀ t, ts.getLast? = some t → ModeClear s t → t.rxbuf[1] = 9 →
        ts.map State.state = [0x80, 0x01, 0x02, 0x82, 0x03, 0x04, 0x84, 0x05, 0x06, 0x86, 0x07, 0x08] ∧
        t.txcount = s.txcount + 4 ∧
        ∃ u v : State, ts[4]? = some u ∧ ts[5]? = some v ∧
          (∃ r2 r3 r4 r5, ((newFrames u v).map Frame.mosi).getLast? = some [0x06, r2, r3, r4, r5] ∧
            v.devId = r2 ++ r3 ++ r4 ++ r5 ∧ t.devId = v.devId) ∧
          ((newFrames s t).map Frame.mosi).filterMap (fun m =>
            if m.length = 17 then some (m.take 2) else if m.length = 5 then some (m.take 1) else none) =
            [[0x05, 1], [0x05, 3], [0x06], [0x05, 1], [0x05, 9]]

/-- 43_bind.md R270: the tick-driven bind may never end: with no bound, a mode register busy at `BIND_2` brings it back to
`BIND_1` after one transmission; and replies without the completion code bring it back from `BIND_7` to `BIND_7`. -/
def Obligations.BindMayGoRoundForever : Prop :=
  (∀ s : State, s.state = 0x00 → s.config.bindMaxRestarts = 0 → ∃ a b c : State,
    ticks 3 s = some [a, b, c] ∧ a.state = 0x80 ∧ b.state = 0x01 ∧ c.txcount = s.txcount + 1 ∧
    (busy s.config (misoAt b 1) = true → c.state = 0x00 ∧ c.config = s.config)) ∧
  (∀ s : State, s.state = 0x06 → ∃ a b c : State,
    ticks 3 s = some [a, b, c] ∧ a.state = 0x86 ∧ b.state = 0x07 ∧
    (busy s.config (misoAt b 1) = false → c.rxbuf[1] ≠ 9 → c.state = 0x06 ∧ c.config = s.config))

/-! ## The sequential bind -/

/-- 43_bind.md R264, R266 and R260: `BIND_SEQ`, in every state, runs its exchanges one after the other, each with the packet
of its step and the vehicle ID programmed before the third. After 13 that ended well it sends the two frames of `Finalize` and
is in `DATA_1`; at the first that fails it is in `BIND_FAILED`. It leaves what it does not name. -/
def Obligations.SequentialBindEndsBoundOrFailed : Prop :=
  ∀ s : State, ∃ t, exec .bindSeq s = .next t ∧
    ((∃ u, SeqAnswered 13 (seqStart s) u ∧
        t = { sendAll [[s.config.codeReg, s.config.codeFecValue], [s.config.strobeStandby]] u with
          lastStrobe := s.config.strobeStandby
          state := 0x08
          restarts := 0 }) ∨
      (∃ n < 13, ∃ v w, SeqFailsAt n (seqStart s) v w ∧ t = { w with state := 0x0E, bfail := true })) ∧
    ((t.state = 0x08 ∧ t.round = 13 ∧ t.bfail = s.bfail ∧ t.lastStrobe = s.config.strobeStandby) ∨
      (t.state = 0x0E ∧ t.round.toNat < 13 ∧ t.bfail = true)) ∧
    t.restarts = 0 ∧ t.rebindReq = false ∧ t.delayUs = 0 ∧ t.txen = false ∧ t.rxen = true ∧
    t.err = s.err ∧ t.errcode = s.errcode ∧ t.rdata = s.rdata ∧ t.channel = s.channel ∧ t.sessionId = s.sessionId ∧
    t.rssiSum = s.rssiSum ∧ t.bestIdx = s.bestIdx

/-- 43_bind.md R272: against a transceiver whose every `MODE_REG` draw is clear, `BIND_SEQ` makes exactly 13 transmissions,
with one ID frame between the second and the third, and ends bound. Every frame it sends, in order: the 13 exchanges, each with
its packet; the ID frame, with bytes 2..5 of the level-3 reply, which `DEV_ID` then holds; the two frames of `Finalize`. -/
def Obligations.SequentialBindTakesThirteenTransmissions : Prop :=
  ∀ s t : State, s.config.wf = true → exec .bindSeq s = .next t → ModeClear s t →
    t.state = 0x08 ∧ t.round = 13 ∧ t.txcount = s.txcount + 13 ∧
    ((newFrames s t).map Frame.mosi).filterMap (fun m =>
      if m.length = 17 then some (m.take 2) else if m.length = 5 then some (m.take 1) else none) =
      [[0x05, 1], [0x05, 3], [0x06], [0x05, 1]] ++ List.replicate 10 [0x05, 9] ∧
    ∃ r2 r3 r4 r5 : Byte,
      [r2, r3, r4, r5] = [2, 3, 4, 5].map (fun j => misoAt s (83 + 4 * min 1 s.config.txPollMax + 2 * j)) ∧
      t.devId = r2 ++ r3 ++ r4 ++ r5 ∧
      (newFrames s t).map Frame.mosi =
        quickExchange s 0 ++ quickExchange s 1 ++ [[0x06, r2, r3, r4, r5]] ++ quickExchange s 2 ++
          (List.range 10).flatMap (fun i => quickExchange s (i + 3)) ++
          [[s.config.codeReg, s.config.codeFecValue], [s.config.strobeStandby]]

/-- 43_bind.md R264 and R268. An exchange, whatever the transceiver answers: it ends well at its first attempt with a clear
listen poll, and fails when `SEQ_MAX_ATTEMPTS` attempts had none; each attempt sends the packet of `TXBUF` once more, unchanged.
`BIND_SEQ` ends in `BIND_FAILED` exactly when an exchange fails, which then made `SEQ_MAX_ATTEMPTS` transmissions of its packet,
and sets `BFAIL`. Against a silent vehicle that is the first exchange. -/
def Obligations.SilentVehicleFailsTheSequentialBind : Prop :=
  (∀ (s t : State) (r : Exchange), exchange s.config.seqMaxAttempts s = (r, t) →
    (r = .ok → Answered s t) ∧ (r = .fail → Unanswered s.config.seqMaxAttempts s t) ∧
    ∃ n, 1 ≤ n ∧ n ≤ s.config.seqMaxAttempts ∧ (r = .fail → n = s.config.seqMaxAttempts) ∧
      t.txcount = s.txcount + BitVec.ofNat 8 n ∧ bursts s t = List.replicate n (0x05 :: s.txbuf.toList)) ∧
  (∀ s t : State, exec .bindSeq s = .next t →
    (t.state = 0x0E ↔ ∃ n < 13, ∃ v w, SeqFailsAt n (seqStart s) v w) ∧
    (t.state = 0x0E → t.bfail = true ∧ ∃ n < 13, ∃ v w, SeqFailsAt n (seqStart s) v w ∧
      t.round = BitVec.ofNat 8 n ∧ w.txcount = v.txcount + BitVec.ofNat 8 s.config.seqMaxAttempts ∧
      bursts v w = List.replicate s.config.seqMaxAttempts (0x05 :: seqPacket s n) ∧
      t = { w with state := 0x0E, bfail := true })) ∧
  (∀ s t : State, exec .bindSeq s = .next t → ModeBusy s t →
    t.state = 0x0E ∧ t.bfail = true ∧ t.round = 0 ∧
    t.txcount = s.txcount + BitVec.ofNat 8 s.config.seqMaxAttempts ∧
    ((newFrames s t).map Frame.mosi).countP (fun m => m.length == 17) = s.config.seqMaxAttempts)

/-! ## The data phase -/

/-- 44_data_scheduler.md R292 and R295: the data arm, for every step, mode and `REBIND_REQ`. -/
def Obligations.DataArmFollowsItsTable : Prop :=
  ∀ (s : State) (k : DataStep) (before after ch : Byte),
    (k, before, after, ch) ∈ [(DataStep.data1, 0x08, 0x09, s.channel), (.data2, 0x09, 0x0A, s.channel),
      (.data3, 0x0A, 0x0B, s.channel), (.data4, 0x0B, 0x0C, s.channel), (.data5, 0x0C, 0x08, s.channel + 0x23)] →
    (s.state = before → exec .tick s = exec (.tickData k) s) ∧
    (s.rebindReq = true →
      exec (.tickData k) s = .next { s with rebindReq := false, state := 0x00, restarts := 0, delayUs := 0 }) ∧
    (s.rebindReq = false → s.config.dataMode = .cycled → ∃ (p : Packet) (t : State),
      p.toList = withCks (dataBytes s) ∧
      Wrote 16 ch { (if k = .data1 then sendAll [[s.config.powerReg, s.txpower]] s else s) with txbuf := p } t ∧
      exec (.tickData k) s = .next { t with state := after, delayUs := s.config.dlyData }) ∧
    (s.rebindReq = false → s.config.dataMode = .fixed → ∃ (p : Packet) (t : State),
      p.toList = withCks (dataBytes s) ∧ Wrote 16 s.channel { s with txbuf := p } t ∧
      exec (.tickData k) s = .next { t with state := 0x08, delayUs := s.config.dlyData })

/-- 44_data_scheduler.md R296: five ticks of the cycled strategy: one power write, four packets on `CHANNEL`, one on the
secondary channel, and back at `DATA_1`. -/
def Obligations.DataCycleHasFiveTicks : Prop :=
  ∀ s : State, s.state = 0x08 → s.rebindReq = false → s.config.dataMode = .cycled →
    ∃ (a b c d t : State) (p1 p2 p3 p4 p5 : Nat),
      ticks 5 s = some [a, b, c, d, t] ∧ t.state = 0x08 ∧ t.txcount = s.txcount + 5 ∧
      (newFrames s t).map Frame.mosi =
        [s.config.powerReg, s.txpower] ::
          (packetFrames s.config (withCks (dataBytes s)) s.channel ++ List.replicate p1 (pollFrame s.config) ++
           packetFrames s.config (withCks (dataBytes s)) s.channel ++ List.replicate p2 (pollFrame s.config) ++
           packetFrames s.config (withCks (dataBytes s)) s.channel ++ List.replicate p3 (pollFrame s.config) ++
           packetFrames s.config (withCks (dataBytes s)) s.channel ++ List.replicate p4 (pollFrame s.config) ++
           packetFrames s.config (withCks (dataBytes s)) (s.channel + 0x23) ++ List.replicate p5 (pollFrame s.config))

/-- 44_data_scheduler.md R297: no tick leaves the data states but one that finds `REBIND_REQ` set. -/
def Obligations.DataPhaseEndsOnlyByRequest : Prop :=
  ∀ s t : State, s.state ∈ [0x08, 0x09, 0x0A, 0x0B, 0x0C] → exec .tick s = .next t →
    (t.state ∉ [0x08, 0x09, 0x0A, 0x0B, 0x0C] ↔ s.rebindReq = true)

/-! ## Over all instructions -/

/-- What only the host writes: no instruction changes `CMD`, `ARG0`, `ARG1`, `SESSION_ID`, the axes, `FLAGS`, `TXPOWER`, or
the host's own records (10_state.md R34, R35, R48, R50 to R52; 43_bind.md R262). -/
def Obligations.NoInstructionWritesTheHostsRegisters : Prop :=
  ∀ (i : Instr) (s t : State), exec i s = .next t →
    t.cmd = s.cmd ∧ t.arg0 = s.arg0 ∧ t.arg1 = s.arg1 ∧ t.sessionId = s.sessionId ∧ t.throttle = s.throttle ∧
    t.rudder = s.rudder ∧ t.elevator = s.elevator ∧ t.aileron = s.aileron ∧ t.flags = s.flags ∧
    t.txpower = s.txpower ∧ t.config = s.config ∧ t.hostQueue = s.hostQueue ∧ t.hostReads = s.hostReads

/-- The registers that one command alone writes (10_state.md R36, R40, R45, R55, R56): `RDATA` only `REG_READ`; `CHANNEL`,
`RSSI_SUM` and `BEST_IDX` only `SCAN`; `ROUND` only `BIND_SEQ`. -/
def Obligations.SingleWriterRegisters : Prop :=
  ∀ (i : Instr) (s t : State), exec i s = .next t →
    (i ≠ .regRead → t.rdata = s.rdata) ∧
    (i ≠ .scan → t.channel = s.channel ∧ t.rssiSum = s.rssiSum ∧ t.bestIdx = s.bestIdx) ∧
    (i ≠ .bindSeq → t.round = s.round)

/-- The transport commands, `SCAN` and the packet builders leave `STATE`, `RESTARTS`, `DELAY_US` and `REBIND_REQ`, whatever
`STATE` is (70_reset_and_hazards.md R373, 42_channel_select.md R224, 41_packets.md R196). -/
def Obligations.OnlySessionCommandsMoveTheStateMachine : Prop :=
  ∀ (i : Instr) (s t : State),
    i ∈ [Instr.nop, .regRead, .regWrite, .strobe, .setId, .fifoWrite, .fifoRead, .scan, .buildBind, .buildData] →
    exec i s = .next t →
    t.state = s.state ∧ t.restarts = s.restarts ∧ t.delayUs = s.delayUs ∧ t.rebindReq = s.rebindReq ∧ t.bfail = s.bfail

/-- 60_exceptions.md R311 and R317: an instruction that touches `ERR` or `ERRCODE` has raised one error and has done nothing
else; so an error and a warning never come from the same command. -/
def Obligations.ErrorsArePrecise : Prop :=
  ∀ (i : Instr) (s t : State), exec i s = .next t →
    (t.err = s.err ∧ t.errcode = s.errcode) ∨
      ∃ code : Byte, 1 ≤ code.toNat ∧ code.toNat ≤ 5 ∧ t = { s with err := true, errcode := code }

/-- 10_state.md R58 and R42: every step only adds to the frame trace, and leaves the outputs in receive if they were. -/
def Obligations.TraceOnlyGrows : Prop :=
  ∀ s t : State, step s = .next t →
    s.trace <+: t.trace ∧ (s.txen = false → s.rxen = true → t.txen = false ∧ t.rxen = true)

/-! ## The invariant -/

/-- The state after reset is legal. -/
def Obligations.ResetIsLegal : Prop := Legal State.reset

/-- Every step keeps a legal state legal: `STATE` stays reachable (60_exceptions.md R331), `ERRCODE` goes with `ERR` (10_state.md
R38), `LAST_STROBE` holds a strobe (60_exceptions.md R315), the outputs select receive, `ROUND`, `BEST_IDX` and the sums stay in
range, and every frame sent is one of the five formats (30_encoding.md R122). -/
def Obligations.StepKeepsLegal : Prop :=
  ∀ s t : State, Legal s → step s = .next t → Legal t

/-- 60_exceptions.md R330: from a legal state no step stops. -/
def Obligations.LegalStatesNeverStop : Prop :=
  ∀ s : State, Legal s → ∃ t, step s = .next t
end

