-- ==== Sys2Proof/Laws/State.lean ====
section
/-! SUPPORT. The small lemmas of the state updates: one per field per update, true by rfl, so that no later proof unfolds a
record update. -/

namespace Sys2Proof.Machine

section
variable (m : List Byte) (s : State)

@[simp] theorem xfer_config : (xfer m s).config = s.config := rfl
@[simp] theorem xfer_cmd : (xfer m s).cmd = s.cmd := rfl
@[simp] theorem xfer_arg0 : (xfer m s).arg0 = s.arg0 := rfl
@[simp] theorem xfer_arg1 : (xfer m s).arg1 = s.arg1 := rfl
@[simp] theorem xfer_rdata : (xfer m s).rdata = s.rdata := rfl
@[simp] theorem xfer_err : (xfer m s).err = s.err := rfl
@[simp] theorem xfer_txto : (xfer m s).txto = s.txto := rfl
@[simp] theorem xfer_bfail : (xfer m s).bfail = s.bfail := rfl
@[simp] theorem xfer_errcode : (xfer m s).errcode = s.errcode := rfl
@[simp] theorem xfer_state : (xfer m s).state = s.state := rfl
@[simp] theorem xfer_channel : (xfer m s).channel = s.channel := rfl
@[simp] theorem xfer_lastStrobe : (xfer m s).lastStrobe = s.lastStrobe := rfl
@[simp] theorem xfer_txen : (xfer m s).txen = s.txen := rfl
@[simp] theorem xfer_rxen : (xfer m s).rxen = s.rxen := rfl
@[simp] theorem xfer_rebindReq : (xfer m s).rebindReq = s.rebindReq := rfl
@[simp] theorem xfer_restarts : (xfer m s).restarts = s.restarts := rfl
@[simp] theorem xfer_round : (xfer m s).round = s.round := rfl
@[simp] theorem xfer_txcount : (xfer m s).txcount = s.txcount := rfl
@[simp] theorem xfer_delayUs : (xfer m s).delayUs = s.delayUs := rfl
@[simp] theorem xfer_sessionId : (xfer m s).sessionId = s.sessionId := rfl
@[simp] theorem xfer_devId : (xfer m s).devId = s.devId := rfl
@[simp] theorem xfer_throttle : (xfer m s).throttle = s.throttle := rfl
@[simp] theorem xfer_rudder : (xfer m s).rudder = s.rudder := rfl
@[simp] theorem xfer_elevator : (xfer m s).elevator = s.elevator := rfl
@[simp] theorem xfer_aileron : (xfer m s).aileron = s.aileron := rfl
@[simp] theorem xfer_flags : (xfer m s).flags = s.flags := rfl
@[simp] theorem xfer_txpower : (xfer m s).txpower = s.txpower := rfl
@[simp] theorem xfer_txbuf : (xfer m s).txbuf = s.txbuf := rfl
@[simp] theorem xfer_rxbuf : (xfer m s).rxbuf = s.rxbuf := rfl
@[simp] theorem xfer_rssiSum : (xfer m s).rssiSum = s.rssiSum := rfl
@[simp] theorem xfer_bestIdx : (xfer m s).bestIdx = s.bestIdx := rfl
@[simp] theorem xfer_trace : (xfer m s).trace = s.trace ++ [⟨m, answers s m.length⟩] := rfl
@[simp] theorem xfer_hostQueue : (xfer m s).hostQueue = s.hostQueue := rfl
@[simp] theorem xfer_hostReads : (xfer m s).hostReads = s.hostReads := rfl
@[simp] theorem xfer_misoQueue : (xfer m s).misoQueue = s.misoQueue.drop m.length := rfl
@[simp] theorem xfer_draws : (xfer m s).draws = s.draws + m.length := rfl

end

section
variable (c : Byte) (s : State)

@[simp] theorem strobe_config : (strobe c s).config = s.config := rfl
@[simp] theorem strobe_cmd : (strobe c s).cmd = s.cmd := rfl
@[simp] theorem strobe_arg0 : (strobe c s).arg0 = s.arg0 := rfl
@[simp] theorem strobe_arg1 : (strobe c s).arg1 = s.arg1 := rfl
@[simp] theorem strobe_rdata : (strobe c s).rdata = s.rdata := rfl
@[simp] theorem strobe_err : (strobe c s).err = s.err := rfl
@[simp] theorem strobe_txto : (strobe c s).txto = s.txto := rfl
@[simp] theorem strobe_bfail : (strobe c s).bfail = s.bfail := rfl
@[simp] theorem strobe_errcode : (strobe c s).errcode = s.errcode := rfl
@[simp] theorem strobe_state : (strobe c s).state = s.state := rfl
@[simp] theorem strobe_channel : (strobe c s).channel = s.channel := rfl
@[simp] theorem strobe_lastStrobe : (strobe c s).lastStrobe = c := rfl
@[simp] theorem strobe_txen : (strobe c s).txen = s.txen := rfl
@[simp] theorem strobe_rxen : (strobe c s).rxen = s.rxen := rfl
@[simp] theorem strobe_rebindReq : (strobe c s).rebindReq = s.rebindReq := rfl
@[simp] theorem strobe_restarts : (strobe c s).restarts = s.restarts := rfl
@[simp] theorem strobe_round : (strobe c s).round = s.round := rfl
@[simp] theorem strobe_txcount : (strobe c s).txcount = s.txcount := rfl
@[simp] theorem strobe_delayUs : (strobe c s).delayUs = s.delayUs := rfl
@[simp] theorem strobe_sessionId : (strobe c s).sessionId = s.sessionId := rfl
@[simp] theorem strobe_devId : (strobe c s).devId = s.devId := rfl
@[simp] theorem strobe_throttle : (strobe c s).throttle = s.throttle := rfl
@[simp] theorem strobe_rudder : (strobe c s).rudder = s.rudder := rfl
@[simp] theorem strobe_elevator : (strobe c s).elevator = s.elevator := rfl
@[simp] theorem strobe_aileron : (strobe c s).aileron = s.aileron := rfl
@[simp] theorem strobe_flags : (strobe c s).flags = s.flags := rfl
@[simp] theorem strobe_txpower : (strobe c s).txpower = s.txpower := rfl
@[simp] theorem strobe_txbuf : (strobe c s).txbuf = s.txbuf := rfl
@[simp] theorem strobe_rxbuf : (strobe c s).rxbuf = s.rxbuf := rfl
@[simp] theorem strobe_rssiSum : (strobe c s).rssiSum = s.rssiSum := rfl
@[simp] theorem strobe_bestIdx : (strobe c s).bestIdx = s.bestIdx := rfl
@[simp] theorem strobe_trace : (strobe c s).trace = s.trace ++ [⟨[c], answers s ([c]).length⟩] := rfl
@[simp] theorem strobe_hostQueue : (strobe c s).hostQueue = s.hostQueue := rfl
@[simp] theorem strobe_hostReads : (strobe c s).hostReads = s.hostReads := rfl
@[simp] theorem strobe_misoQueue : (strobe c s).misoQueue = s.misoQueue.drop ([c]).length := rfl
@[simp] theorem strobe_draws : (strobe c s).draws = s.draws + ([c]).length := rfl

end

section
variable (a v : Byte) (s : State)

@[simp] theorem regWrite_config : (regWrite a v s).config = s.config := rfl
@[simp] theorem regWrite_cmd : (regWrite a v s).cmd = s.cmd := rfl
@[simp] theorem regWrite_arg0 : (regWrite a v s).arg0 = s.arg0 := rfl
@[simp] theorem regWrite_arg1 : (regWrite a v s).arg1 = s.arg1 := rfl
@[simp] theorem regWrite_rdata : (regWrite a v s).rdata = s.rdata := rfl
@[simp] theorem regWrite_err : (regWrite a v s).err = s.err := rfl
@[simp] theorem regWrite_txto : (regWrite a v s).txto = s.txto := rfl
@[simp] theorem regWrite_bfail : (regWrite a v s).bfail = s.bfail := rfl
@[simp] theorem regWrite_errcode : (regWrite a v s).errcode = s.errcode := rfl
@[simp] theorem regWrite_state : (regWrite a v s).state = s.state := rfl
@[simp] theorem regWrite_channel : (regWrite a v s).channel = s.channel := rfl
@[simp] theorem regWrite_lastStrobe : (regWrite a v s).lastStrobe = s.lastStrobe := rfl
@[simp] theorem regWrite_txen : (regWrite a v s).txen = s.txen := rfl
@[simp] theorem regWrite_rxen : (regWrite a v s).rxen = s.rxen := rfl
@[simp] theorem regWrite_rebindReq : (regWrite a v s).rebindReq = s.rebindReq := rfl
@[simp] theorem regWrite_restarts : (regWrite a v s).restarts = s.restarts := rfl
@[simp] theorem regWrite_round : (regWrite a v s).round = s.round := rfl
@[simp] theorem regWrite_txcount : (regWrite a v s).txcount = s.txcount := rfl
@[simp] theorem regWrite_delayUs : (regWrite a v s).delayUs = s.delayUs := rfl
@[simp] theorem regWrite_sessionId : (regWrite a v s).sessionId = s.sessionId := rfl
@[simp] theorem regWrite_devId : (regWrite a v s).devId = s.devId := rfl
@[simp] theorem regWrite_throttle : (regWrite a v s).throttle = s.throttle := rfl
@[simp] theorem regWrite_rudder : (regWrite a v s).rudder = s.rudder := rfl
@[simp] theorem regWrite_elevator : (regWrite a v s).elevator = s.elevator := rfl
@[simp] theorem regWrite_aileron : (regWrite a v s).aileron = s.aileron := rfl
@[simp] theorem regWrite_flags : (regWrite a v s).flags = s.flags := rfl
@[simp] theorem regWrite_txpower : (regWrite a v s).txpower = s.txpower := rfl
@[simp] theorem regWrite_txbuf : (regWrite a v s).txbuf = s.txbuf := rfl
@[simp] theorem regWrite_rxbuf : (regWrite a v s).rxbuf = s.rxbuf := rfl
@[simp] theorem regWrite_rssiSum : (regWrite a v s).rssiSum = s.rssiSum := rfl
@[simp] theorem regWrite_bestIdx : (regWrite a v s).bestIdx = s.bestIdx := rfl
@[simp] theorem regWrite_trace : (regWrite a v s).trace = s.trace ++ [⟨[a ||| Param.writeFlag, v], answers s ([a ||| Param.writeFlag, v]).length⟩] := rfl
@[simp] theorem regWrite_hostQueue : (regWrite a v s).hostQueue = s.hostQueue := rfl
@[simp] theorem regWrite_hostReads : (regWrite a v s).hostReads = s.hostReads := rfl
@[simp] theorem regWrite_misoQueue : (regWrite a v s).misoQueue = s.misoQueue.drop ([a ||| Param.writeFlag, v]).length := rfl
@[simp] theorem regWrite_draws : (regWrite a v s).draws = s.draws + ([a ||| Param.writeFlag, v]).length := rfl

end

section
variable (id : Word) (s : State)

@[simp] theorem setId_config : (setId id s).config = s.config := rfl
@[simp] theorem setId_cmd : (setId id s).cmd = s.cmd := rfl
@[simp] theorem setId_arg0 : (setId id s).arg0 = s.arg0 := rfl
@[simp] theorem setId_arg1 : (setId id s).arg1 = s.arg1 := rfl
@[simp] theorem setId_rdata : (setId id s).rdata = s.rdata := rfl
@[simp] theorem setId_err : (setId id s).err = s.err := rfl
@[simp] theorem setId_txto : (setId id s).txto = s.txto := rfl
@[simp] theorem setId_bfail : (setId id s).bfail = s.bfail := rfl
@[simp] theorem setId_errcode : (setId id s).errcode = s.errcode := rfl
@[simp] theorem setId_state : (setId id s).state = s.state := rfl
@[simp] theorem setId_channel : (setId id s).channel = s.channel := rfl
@[simp] theorem setId_lastStrobe : (setId id s).lastStrobe = s.lastStrobe := rfl
@[simp] theorem setId_txen : (setId id s).txen = s.txen := rfl
@[simp] theorem setId_rxen : (setId id s).rxen = s.rxen := rfl
@[simp] theorem setId_rebindReq : (setId id s).rebindReq = s.rebindReq := rfl
@[simp] theorem setId_restarts : (setId id s).restarts = s.restarts := rfl
@[simp] theorem setId_round : (setId id s).round = s.round := rfl
@[simp] theorem setId_txcount : (setId id s).txcount = s.txcount := rfl
@[simp] theorem setId_delayUs : (setId id s).delayUs = s.delayUs := rfl
@[simp] theorem setId_sessionId : (setId id s).sessionId = s.sessionId := rfl
@[simp] theorem setId_devId : (setId id s).devId = id := rfl
@[simp] theorem setId_throttle : (setId id s).throttle = s.throttle := rfl
@[simp] theorem setId_rudder : (setId id s).rudder = s.rudder := rfl
@[simp] theorem setId_elevator : (setId id s).elevator = s.elevator := rfl
@[simp] theorem setId_aileron : (setId id s).aileron = s.aileron := rfl
@[simp] theorem setId_flags : (setId id s).flags = s.flags := rfl
@[simp] theorem setId_txpower : (setId id s).txpower = s.txpower := rfl
@[simp] theorem setId_txbuf : (setId id s).txbuf = s.txbuf := rfl
@[simp] theorem setId_rxbuf : (setId id s).rxbuf = s.rxbuf := rfl
@[simp] theorem setId_rssiSum : (setId id s).rssiSum = s.rssiSum := rfl
@[simp] theorem setId_bestIdx : (setId id s).bestIdx = s.bestIdx := rfl
@[simp] theorem setId_trace : (setId id s).trace = s.trace ++ [⟨Param.idAddr :: be32 id, answers s (Param.idAddr :: be32 id).length⟩] := rfl
@[simp] theorem setId_hostQueue : (setId id s).hostQueue = s.hostQueue := rfl
@[simp] theorem setId_hostReads : (setId id s).hostReads = s.hostReads := rfl
@[simp] theorem setId_misoQueue : (setId id s).misoQueue = s.misoQueue.drop (Param.idAddr :: be32 id).length := rfl
@[simp] theorem setId_draws : (setId id s).draws = s.draws + (Param.idAddr :: be32 id).length := rfl

end

section
variable (d : List Byte) (s : State)

@[simp] theorem burst_config : (burst d s).config = s.config := rfl
@[simp] theorem burst_cmd : (burst d s).cmd = s.cmd := rfl
@[simp] theorem burst_arg0 : (burst d s).arg0 = s.arg0 := rfl
@[simp] theorem burst_arg1 : (burst d s).arg1 = s.arg1 := rfl
@[simp] theorem burst_rdata : (burst d s).rdata = s.rdata := rfl
@[simp] theorem burst_err : (burst d s).err = s.err := rfl
@[simp] theorem burst_txto : (burst d s).txto = s.txto := rfl
@[simp] theorem burst_bfail : (burst d s).bfail = s.bfail := rfl
@[simp] theorem burst_errcode : (burst d s).errcode = s.errcode := rfl
@[simp] theorem burst_state : (burst d s).state = s.state := rfl
@[simp] theorem burst_channel : (burst d s).channel = s.channel := rfl
@[simp] theorem burst_lastStrobe : (burst d s).lastStrobe = s.lastStrobe := rfl
@[simp] theorem burst_txen : (burst d s).txen = s.txen := rfl
@[simp] theorem burst_rxen : (burst d s).rxen = s.rxen := rfl
@[simp] theorem burst_rebindReq : (burst d s).rebindReq = s.rebindReq := rfl
@[simp] theorem burst_restarts : (burst d s).restarts = s.restarts := rfl
@[simp] theorem burst_round : (burst d s).round = s.round := rfl
@[simp] theorem burst_txcount : (burst d s).txcount = s.txcount := rfl
@[simp] theorem burst_delayUs : (burst d s).delayUs = s.delayUs := rfl
@[simp] theorem burst_sessionId : (burst d s).sessionId = s.sessionId := rfl
@[simp] theorem burst_devId : (burst d s).devId = s.devId := rfl
@[simp] theorem burst_throttle : (burst d s).throttle = s.throttle := rfl
@[simp] theorem burst_rudder : (burst d s).rudder = s.rudder := rfl
@[simp] theorem burst_elevator : (burst d s).elevator = s.elevator := rfl
@[simp] theorem burst_aileron : (burst d s).aileron = s.aileron := rfl
@[simp] theorem burst_flags : (burst d s).flags = s.flags := rfl
@[simp] theorem burst_txpower : (burst d s).txpower = s.txpower := rfl
@[simp] theorem burst_txbuf : (burst d s).txbuf = s.txbuf := rfl
@[simp] theorem burst_rxbuf : (burst d s).rxbuf = s.rxbuf := rfl
@[simp] theorem burst_rssiSum : (burst d s).rssiSum = s.rssiSum := rfl
@[simp] theorem burst_bestIdx : (burst d s).bestIdx = s.bestIdx := rfl
@[simp] theorem burst_trace : (burst d s).trace = s.trace ++ [⟨Param.fifoAddr :: d, answers s (Param.fifoAddr :: d).length⟩] := rfl
@[simp] theorem burst_hostQueue : (burst d s).hostQueue = s.hostQueue := rfl
@[simp] theorem burst_hostReads : (burst d s).hostReads = s.hostReads := rfl
@[simp] theorem burst_misoQueue : (burst d s).misoQueue = s.misoQueue.drop (Param.fifoAddr :: d).length := rfl
@[simp] theorem burst_draws : (burst d s).draws = s.draws + (Param.fifoAddr :: d).length := rfl

end

section
variable (tx rx : Bool) (s : State)

@[simp] theorem setPins_config : (setPins tx rx s).config = s.config := rfl
@[simp] theorem setPins_cmd : (setPins tx rx s).cmd = s.cmd := rfl
@[simp] theorem setPins_arg0 : (setPins tx rx s).arg0 = s.arg0 := rfl
@[simp] theorem setPins_arg1 : (setPins tx rx s).arg1 = s.arg1 := rfl
@[simp] theorem setPins_rdata : (setPins tx rx s).rdata = s.rdata := rfl
@[simp] theorem setPins_err : (setPins tx rx s).err = s.err := rfl
@[simp] theorem setPins_txto : (setPins tx rx s).txto = s.txto := rfl
@[simp] theorem setPins_bfail : (setPins tx rx s).bfail = s.bfail := rfl
@[simp] theorem setPins_errcode : (setPins tx rx s).errcode = s.errcode := rfl
@[simp] theorem setPins_state : (setPins tx rx s).state = s.state := rfl
@[simp] theorem setPins_channel : (setPins tx rx s).channel = s.channel := rfl
@[simp] theorem setPins_lastStrobe : (setPins tx rx s).lastStrobe = s.lastStrobe := rfl
@[simp] theorem setPins_txen : (setPins tx rx s).txen = tx := rfl
@[simp] theorem setPins_rxen : (setPins tx rx s).rxen = rx := rfl
@[simp] theorem setPins_rebindReq : (setPins tx rx s).rebindReq = s.rebindReq := rfl
@[simp] theorem setPins_restarts : (setPins tx rx s).restarts = s.restarts := rfl
@[simp] theorem setPins_round : (setPins tx rx s).round = s.round := rfl
@[simp] theorem setPins_txcount : (setPins tx rx s).txcount = s.txcount := rfl
@[simp] theorem setPins_delayUs : (setPins tx rx s).delayUs = s.delayUs := rfl
@[simp] theorem setPins_sessionId : (setPins tx rx s).sessionId = s.sessionId := rfl
@[simp] theorem setPins_devId : (setPins tx rx s).devId = s.devId := rfl
@[simp] theorem setPins_throttle : (setPins tx rx s).throttle = s.throttle := rfl
@[simp] theorem setPins_rudder : (setPins tx rx s).rudder = s.rudder := rfl
@[simp] theorem setPins_elevator : (setPins tx rx s).elevator = s.elevator := rfl
@[simp] theorem setPins_aileron : (setPins tx rx s).aileron = s.aileron := rfl
@[simp] theorem setPins_flags : (setPins tx rx s).flags = s.flags := rfl
@[simp] theorem setPins_txpower : (setPins tx rx s).txpower = s.txpower := rfl
@[simp] theorem setPins_txbuf : (setPins tx rx s).txbuf = s.txbuf := rfl
@[simp] theorem setPins_rxbuf : (setPins tx rx s).rxbuf = s.rxbuf := rfl
@[simp] theorem setPins_rssiSum : (setPins tx rx s).rssiSum = s.rssiSum := rfl
@[simp] theorem setPins_bestIdx : (setPins tx rx s).bestIdx = s.bestIdx := rfl
@[simp] theorem setPins_trace : (setPins tx rx s).trace = s.trace := rfl
@[simp] theorem setPins_hostQueue : (setPins tx rx s).hostQueue = s.hostQueue := rfl
@[simp] theorem setPins_hostReads : (setPins tx rx s).hostReads = s.hostReads := rfl
@[simp] theorem setPins_misoQueue : (setPins tx rx s).misoQueue = s.misoQueue := rfl
@[simp] theorem setPins_draws : (setPins tx rx s).draws = s.draws := rfl

end

section
variable (s : State)

@[simp] theorem countTx_config : (countTx s).config = s.config := rfl
@[simp] theorem countTx_cmd : (countTx s).cmd = s.cmd := rfl
@[simp] theorem countTx_arg0 : (countTx s).arg0 = s.arg0 := rfl
@[simp] theorem countTx_arg1 : (countTx s).arg1 = s.arg1 := rfl
@[simp] theorem countTx_rdata : (countTx s).rdata = s.rdata := rfl
@[simp] theorem countTx_err : (countTx s).err = s.err := rfl
@[simp] theorem countTx_txto : (countTx s).txto = s.txto := rfl
@[simp] theorem countTx_bfail : (countTx s).bfail = s.bfail := rfl
@[simp] theorem countTx_errcode : (countTx s).errcode = s.errcode := rfl
@[simp] theorem countTx_state : (countTx s).state = s.state := rfl
@[simp] theorem countTx_channel : (countTx s).channel = s.channel := rfl
@[simp] theorem countTx_lastStrobe : (countTx s).lastStrobe = s.lastStrobe := rfl
@[simp] theorem countTx_txen : (countTx s).txen = s.txen := rfl
@[simp] theorem countTx_rxen : (countTx s).rxen = s.rxen := rfl
@[simp] theorem countTx_rebindReq : (countTx s).rebindReq = s.rebindReq := rfl
@[simp] theorem countTx_restarts : (countTx s).restarts = s.restarts := rfl
@[simp] theorem countTx_round : (countTx s).round = s.round := rfl
@[simp] theorem countTx_txcount : (countTx s).txcount = s.txcount + 1 := rfl
@[simp] theorem countTx_delayUs : (countTx s).delayUs = s.delayUs := rfl
@[simp] theorem countTx_sessionId : (countTx s).sessionId = s.sessionId := rfl
@[simp] theorem countTx_devId : (countTx s).devId = s.devId := rfl
@[simp] theorem countTx_throttle : (countTx s).throttle = s.throttle := rfl
@[simp] theorem countTx_rudder : (countTx s).rudder = s.rudder := rfl
@[simp] theorem countTx_elevator : (countTx s).elevator = s.elevator := rfl
@[simp] theorem countTx_aileron : (countTx s).aileron = s.aileron := rfl
@[simp] theorem countTx_flags : (countTx s).flags = s.flags := rfl
@[simp] theorem countTx_txpower : (countTx s).txpower = s.txpower := rfl
@[simp] theorem countTx_txbuf : (countTx s).txbuf = s.txbuf := rfl
@[simp] theorem countTx_rxbuf : (countTx s).rxbuf = s.rxbuf := rfl
@[simp] theorem countTx_rssiSum : (countTx s).rssiSum = s.rssiSum := rfl
@[simp] theorem countTx_bestIdx : (countTx s).bestIdx = s.bestIdx := rfl
@[simp] theorem countTx_trace : (countTx s).trace = s.trace := rfl
@[simp] theorem countTx_hostQueue : (countTx s).hostQueue = s.hostQueue := rfl
@[simp] theorem countTx_hostReads : (countTx s).hostReads = s.hostReads := rfl
@[simp] theorem countTx_misoQueue : (countTx s).misoQueue = s.misoQueue := rfl
@[simp] theorem countTx_draws : (countTx s).draws = s.draws := rfl

end

section
variable (i : Nat) (v : Byte) (s : State)

@[simp] theorem putRx_config : (putRx i v s).config = s.config := rfl
@[simp] theorem putRx_cmd : (putRx i v s).cmd = s.cmd := rfl
@[simp] theorem putRx_arg0 : (putRx i v s).arg0 = s.arg0 := rfl
@[simp] theorem putRx_arg1 : (putRx i v s).arg1 = s.arg1 := rfl
@[simp] theorem putRx_rdata : (putRx i v s).rdata = s.rdata := rfl
@[simp] theorem putRx_err : (putRx i v s).err = s.err := rfl
@[simp] theorem putRx_txto : (putRx i v s).txto = s.txto := rfl
@[simp] theorem putRx_bfail : (putRx i v s).bfail = s.bfail := rfl
@[simp] theorem putRx_errcode : (putRx i v s).errcode = s.errcode := rfl
@[simp] theorem putRx_state : (putRx i v s).state = s.state := rfl
@[simp] theorem putRx_channel : (putRx i v s).channel = s.channel := rfl
@[simp] theorem putRx_lastStrobe : (putRx i v s).lastStrobe = s.lastStrobe := rfl
@[simp] theorem putRx_txen : (putRx i v s).txen = s.txen := rfl
@[simp] theorem putRx_rxen : (putRx i v s).rxen = s.rxen := rfl
@[simp] theorem putRx_rebindReq : (putRx i v s).rebindReq = s.rebindReq := rfl
@[simp] theorem putRx_restarts : (putRx i v s).restarts = s.restarts := rfl
@[simp] theorem putRx_round : (putRx i v s).round = s.round := rfl
@[simp] theorem putRx_txcount : (putRx i v s).txcount = s.txcount := rfl
@[simp] theorem putRx_delayUs : (putRx i v s).delayUs = s.delayUs := rfl
@[simp] theorem putRx_sessionId : (putRx i v s).sessionId = s.sessionId := rfl
@[simp] theorem putRx_devId : (putRx i v s).devId = s.devId := rfl
@[simp] theorem putRx_throttle : (putRx i v s).throttle = s.throttle := rfl
@[simp] theorem putRx_rudder : (putRx i v s).rudder = s.rudder := rfl
@[simp] theorem putRx_elevator : (putRx i v s).elevator = s.elevator := rfl
@[simp] theorem putRx_aileron : (putRx i v s).aileron = s.aileron := rfl
@[simp] theorem putRx_flags : (putRx i v s).flags = s.flags := rfl
@[simp] theorem putRx_txpower : (putRx i v s).txpower = s.txpower := rfl
@[simp] theorem putRx_txbuf : (putRx i v s).txbuf = s.txbuf := rfl
@[simp] theorem putRx_rxbuf : (putRx i v s).rxbuf = s.rxbuf.setIfInBounds i v := rfl
@[simp] theorem putRx_rssiSum : (putRx i v s).rssiSum = s.rssiSum := rfl
@[simp] theorem putRx_bestIdx : (putRx i v s).bestIdx = s.bestIdx := rfl
@[simp] theorem putRx_trace : (putRx i v s).trace = s.trace := rfl
@[simp] theorem putRx_hostQueue : (putRx i v s).hostQueue = s.hostQueue := rfl
@[simp] theorem putRx_hostReads : (putRx i v s).hostReads = s.hostReads := rfl
@[simp] theorem putRx_misoQueue : (putRx i v s).misoQueue = s.misoQueue := rfl
@[simp] theorem putRx_draws : (putRx i v s).draws = s.draws := rfl

end

section
variable (p : Packet) (s : State)

@[simp] theorem putTx_config : (putTx p s).config = s.config := rfl
@[simp] theorem putTx_cmd : (putTx p s).cmd = s.cmd := rfl
@[simp] theorem putTx_arg0 : (putTx p s).arg0 = s.arg0 := rfl
@[simp] theorem putTx_arg1 : (putTx p s).arg1 = s.arg1 := rfl
@[simp] theorem putTx_rdata : (putTx p s).rdata = s.rdata := rfl
@[simp] theorem putTx_err : (putTx p s).err = s.err := rfl
@[simp] theorem putTx_txto : (putTx p s).txto = s.txto := rfl
@[simp] theorem putTx_bfail : (putTx p s).bfail = s.bfail := rfl
@[simp] theorem putTx_errcode : (putTx p s).errcode = s.errcode := rfl
@[simp] theorem putTx_state : (putTx p s).state = s.state := rfl
@[simp] theorem putTx_channel : (putTx p s).channel = s.channel := rfl
@[simp] theorem putTx_lastStrobe : (putTx p s).lastStrobe = s.lastStrobe := rfl
@[simp] theorem putTx_txen : (putTx p s).txen = s.txen := rfl
@[simp] theorem putTx_rxen : (putTx p s).rxen = s.rxen := rfl
@[simp] theorem putTx_rebindReq : (putTx p s).rebindReq = s.rebindReq := rfl
@[simp] theorem putTx_restarts : (putTx p s).restarts = s.restarts := rfl
@[simp] theorem putTx_round : (putTx p s).round = s.round := rfl
@[simp] theorem putTx_txcount : (putTx p s).txcount = s.txcount := rfl
@[simp] theorem putTx_delayUs : (putTx p s).delayUs = s.delayUs := rfl
@[simp] theorem putTx_sessionId : (putTx p s).sessionId = s.sessionId := rfl
@[simp] theorem putTx_devId : (putTx p s).devId = s.devId := rfl
@[simp] theorem putTx_throttle : (putTx p s).throttle = s.throttle := rfl
@[simp] theorem putTx_rudder : (putTx p s).rudder = s.rudder := rfl
@[simp] theorem putTx_elevator : (putTx p s).elevator = s.elevator := rfl
@[simp] theorem putTx_aileron : (putTx p s).aileron = s.aileron := rfl
@[simp] theorem putTx_flags : (putTx p s).flags = s.flags := rfl
@[simp] theorem putTx_txpower : (putTx p s).txpower = s.txpower := rfl
@[simp] theorem putTx_txbuf : (putTx p s).txbuf = withChecksum p := rfl
@[simp] theorem putTx_rxbuf : (putTx p s).rxbuf = s.rxbuf := rfl
@[simp] theorem putTx_rssiSum : (putTx p s).rssiSum = s.rssiSum := rfl
@[simp] theorem putTx_bestIdx : (putTx p s).bestIdx = s.bestIdx := rfl
@[simp] theorem putTx_trace : (putTx p s).trace = s.trace := rfl
@[simp] theorem putTx_hostQueue : (putTx p s).hostQueue = s.hostQueue := rfl
@[simp] theorem putTx_hostReads : (putTx p s).hostReads = s.hostReads := rfl
@[simp] theorem putTx_misoQueue : (putTx p s).misoQueue = s.misoQueue := rfl
@[simp] theorem putTx_draws : (putTx p s).draws = s.draws := rfl

end

section
variable (i : Fin 12) (n : Nat) (s : State)

@[simp] theorem putRssi_config : (putRssi i n s).config = s.config := rfl
@[simp] theorem putRssi_cmd : (putRssi i n s).cmd = s.cmd := rfl
@[simp] theorem putRssi_arg0 : (putRssi i n s).arg0 = s.arg0 := rfl
@[simp] theorem putRssi_arg1 : (putRssi i n s).arg1 = s.arg1 := rfl
@[simp] theorem putRssi_rdata : (putRssi i n s).rdata = s.rdata := rfl
@[simp] theorem putRssi_err : (putRssi i n s).err = s.err := rfl
@[simp] theorem putRssi_txto : (putRssi i n s).txto = s.txto := rfl
@[simp] theorem putRssi_bfail : (putRssi i n s).bfail = s.bfail := rfl
@[simp] theorem putRssi_errcode : (putRssi i n s).errcode = s.errcode := rfl
@[simp] theorem putRssi_state : (putRssi i n s).state = s.state := rfl
@[simp] theorem putRssi_channel : (putRssi i n s).channel = s.channel := rfl
@[simp] theorem putRssi_lastStrobe : (putRssi i n s).lastStrobe = s.lastStrobe := rfl
@[simp] theorem putRssi_txen : (putRssi i n s).txen = s.txen := rfl
@[simp] theorem putRssi_rxen : (putRssi i n s).rxen = s.rxen := rfl
@[simp] theorem putRssi_rebindReq : (putRssi i n s).rebindReq = s.rebindReq := rfl
@[simp] theorem putRssi_restarts : (putRssi i n s).restarts = s.restarts := rfl
@[simp] theorem putRssi_round : (putRssi i n s).round = s.round := rfl
@[simp] theorem putRssi_txcount : (putRssi i n s).txcount = s.txcount := rfl
@[simp] theorem putRssi_delayUs : (putRssi i n s).delayUs = s.delayUs := rfl
@[simp] theorem putRssi_sessionId : (putRssi i n s).sessionId = s.sessionId := rfl
@[simp] theorem putRssi_devId : (putRssi i n s).devId = s.devId := rfl
@[simp] theorem putRssi_throttle : (putRssi i n s).throttle = s.throttle := rfl
@[simp] theorem putRssi_rudder : (putRssi i n s).rudder = s.rudder := rfl
@[simp] theorem putRssi_elevator : (putRssi i n s).elevator = s.elevator := rfl
@[simp] theorem putRssi_aileron : (putRssi i n s).aileron = s.aileron := rfl
@[simp] theorem putRssi_flags : (putRssi i n s).flags = s.flags := rfl
@[simp] theorem putRssi_txpower : (putRssi i n s).txpower = s.txpower := rfl
@[simp] theorem putRssi_txbuf : (putRssi i n s).txbuf = s.txbuf := rfl
@[simp] theorem putRssi_rxbuf : (putRssi i n s).rxbuf = s.rxbuf := rfl
@[simp] theorem putRssi_rssiSum : (putRssi i n s).rssiSum = s.rssiSum.set i (BitVec.ofNat 16 n) := rfl
@[simp] theorem putRssi_bestIdx : (putRssi i n s).bestIdx = s.bestIdx := rfl
@[simp] theorem putRssi_trace : (putRssi i n s).trace = s.trace := rfl
@[simp] theorem putRssi_hostQueue : (putRssi i n s).hostQueue = s.hostQueue := rfl
@[simp] theorem putRssi_hostReads : (putRssi i n s).hostReads = s.hostReads := rfl
@[simp] theorem putRssi_misoQueue : (putRssi i n s).misoQueue = s.misoQueue := rfl
@[simp] theorem putRssi_draws : (putRssi i n s).draws = s.draws := rfl

end

section
variable (b : Byte) (d : Half) (s : State)

@[simp] theorem goto_config : (goto b d s).config = s.config := rfl
@[simp] theorem goto_cmd : (goto b d s).cmd = s.cmd := rfl
@[simp] theorem goto_arg0 : (goto b d s).arg0 = s.arg0 := rfl
@[simp] theorem goto_arg1 : (goto b d s).arg1 = s.arg1 := rfl
@[simp] theorem goto_rdata : (goto b d s).rdata = s.rdata := rfl
@[simp] theorem goto_err : (goto b d s).err = s.err := rfl
@[simp] theorem goto_txto : (goto b d s).txto = s.txto := rfl
@[simp] theorem goto_bfail : (goto b d s).bfail = s.bfail := rfl
@[simp] theorem goto_errcode : (goto b d s).errcode = s.errcode := rfl
@[simp] theorem goto_state : (goto b d s).state = b := rfl
@[simp] theorem goto_channel : (goto b d s).channel = s.channel := rfl
@[simp] theorem goto_lastStrobe : (goto b d s).lastStrobe = s.lastStrobe := rfl
@[simp] theorem goto_txen : (goto b d s).txen = s.txen := rfl
@[simp] theorem goto_rxen : (goto b d s).rxen = s.rxen := rfl
@[simp] theorem goto_rebindReq : (goto b d s).rebindReq = s.rebindReq := rfl
@[simp] theorem goto_restarts : (goto b d s).restarts = s.restarts := rfl
@[simp] theorem goto_round : (goto b d s).round = s.round := rfl
@[simp] theorem goto_txcount : (goto b d s).txcount = s.txcount := rfl
@[simp] theorem goto_delayUs : (goto b d s).delayUs = d := rfl
@[simp] theorem goto_sessionId : (goto b d s).sessionId = s.sessionId := rfl
@[simp] theorem goto_devId : (goto b d s).devId = s.devId := rfl
@[simp] theorem goto_throttle : (goto b d s).throttle = s.throttle := rfl
@[simp] theorem goto_rudder : (goto b d s).rudder = s.rudder := rfl
@[simp] theorem goto_elevator : (goto b d s).elevator = s.elevator := rfl
@[simp] theorem goto_aileron : (goto b d s).aileron = s.aileron := rfl
@[simp] theorem goto_flags : (goto b d s).flags = s.flags := rfl
@[simp] theorem goto_txpower : (goto b d s).txpower = s.txpower := rfl
@[simp] theorem goto_txbuf : (goto b d s).txbuf = s.txbuf := rfl
@[simp] theorem goto_rxbuf : (goto b d s).rxbuf = s.rxbuf := rfl
@[simp] theorem goto_rssiSum : (goto b d s).rssiSum = s.rssiSum := rfl
@[simp] theorem goto_bestIdx : (goto b d s).bestIdx = s.bestIdx := rfl
@[simp] theorem goto_trace : (goto b d s).trace = s.trace := rfl
@[simp] theorem goto_hostQueue : (goto b d s).hostQueue = s.hostQueue := rfl
@[simp] theorem goto_hostReads : (goto b d s).hostReads = s.hostReads := rfl
@[simp] theorem goto_misoQueue : (goto b d s).misoQueue = s.misoQueue := rfl
@[simp] theorem goto_draws : (goto b d s).draws = s.draws := rfl

end

section
variable (s : State)

@[simp] theorem countRound_config : (countRound s).config = s.config := rfl
@[simp] theorem countRound_cmd : (countRound s).cmd = s.cmd := rfl
@[simp] theorem countRound_arg0 : (countRound s).arg0 = s.arg0 := rfl
@[simp] theorem countRound_arg1 : (countRound s).arg1 = s.arg1 := rfl
@[simp] theorem countRound_rdata : (countRound s).rdata = s.rdata := rfl
@[simp] theorem countRound_err : (countRound s).err = s.err := rfl
@[simp] theorem countRound_txto : (countRound s).txto = s.txto := rfl
@[simp] theorem countRound_bfail : (countRound s).bfail = s.bfail := rfl
@[simp] theorem countRound_errcode : (countRound s).errcode = s.errcode := rfl
@[simp] theorem countRound_state : (countRound s).state = s.state := rfl
@[simp] theorem countRound_channel : (countRound s).channel = s.channel := rfl
@[simp] theorem countRound_lastStrobe : (countRound s).lastStrobe = s.lastStrobe := rfl
@[simp] theorem countRound_txen : (countRound s).txen = s.txen := rfl
@[simp] theorem countRound_rxen : (countRound s).rxen = s.rxen := rfl
@[simp] theorem countRound_rebindReq : (countRound s).rebindReq = s.rebindReq := rfl
@[simp] theorem countRound_restarts : (countRound s).restarts = s.restarts := rfl
@[simp] theorem countRound_round : (countRound s).round = s.round + 1 := rfl
@[simp] theorem countRound_txcount : (countRound s).txcount = s.txcount := rfl
@[simp] theorem countRound_delayUs : (countRound s).delayUs = s.delayUs := rfl
@[simp] theorem countRound_sessionId : (countRound s).sessionId = s.sessionId := rfl
@[simp] theorem countRound_devId : (countRound s).devId = s.devId := rfl
@[simp] theorem countRound_throttle : (countRound s).throttle = s.throttle := rfl
@[simp] theorem countRound_rudder : (countRound s).rudder = s.rudder := rfl
@[simp] theorem countRound_elevator : (countRound s).elevator = s.elevator := rfl
@[simp] theorem countRound_aileron : (countRound s).aileron = s.aileron := rfl
@[simp] theorem countRound_flags : (countRound s).flags = s.flags := rfl
@[simp] theorem countRound_txpower : (countRound s).txpower = s.txpower := rfl
@[simp] theorem countRound_txbuf : (countRound s).txbuf = s.txbuf := rfl
@[simp] theorem countRound_rxbuf : (countRound s).rxbuf = s.rxbuf := rfl
@[simp] theorem countRound_rssiSum : (countRound s).rssiSum = s.rssiSum := rfl
@[simp] theorem countRound_bestIdx : (countRound s).bestIdx = s.bestIdx := rfl
@[simp] theorem countRound_trace : (countRound s).trace = s.trace := rfl
@[simp] theorem countRound_hostQueue : (countRound s).hostQueue = s.hostQueue := rfl
@[simp] theorem countRound_hostReads : (countRound s).hostReads = s.hostReads := rfl
@[simp] theorem countRound_misoQueue : (countRound s).misoQueue = s.misoQueue := rfl
@[simp] theorem countRound_draws : (countRound s).draws = s.draws := rfl

end

section
variable (e : ErrorCode) (s : State)

@[simp] theorem cmdError_config : (cmdError e s).config = s.config := rfl
@[simp] theorem cmdError_cmd : (cmdError e s).cmd = s.cmd := rfl
@[simp] theorem cmdError_arg0 : (cmdError e s).arg0 = s.arg0 := rfl
@[simp] theorem cmdError_arg1 : (cmdError e s).arg1 = s.arg1 := rfl
@[simp] theorem cmdError_rdata : (cmdError e s).rdata = s.rdata := rfl
@[simp] theorem cmdError_err : (cmdError e s).err = true := rfl
@[simp] theorem cmdError_txto : (cmdError e s).txto = s.txto := rfl
@[simp] theorem cmdError_bfail : (cmdError e s).bfail = s.bfail := rfl
@[simp] theorem cmdError_errcode : (cmdError e s).errcode = e.code := rfl
@[simp] theorem cmdError_state : (cmdError e s).state = s.state := rfl
@[simp] theorem cmdError_channel : (cmdError e s).channel = s.channel := rfl
@[simp] theorem cmdError_lastStrobe : (cmdError e s).lastStrobe = s.lastStrobe := rfl
@[simp] theorem cmdError_txen : (cmdError e s).txen = s.txen := rfl
@[simp] theorem cmdError_rxen : (cmdError e s).rxen = s.rxen := rfl
@[simp] theorem cmdError_rebindReq : (cmdError e s).rebindReq = s.rebindReq := rfl
@[simp] theorem cmdError_restarts : (cmdError e s).restarts = s.restarts := rfl
@[simp] theorem cmdError_round : (cmdError e s).round = s.round := rfl
@[simp] theorem cmdError_txcount : (cmdError e s).txcount = s.txcount := rfl
@[simp] theorem cmdError_delayUs : (cmdError e s).delayUs = s.delayUs := rfl
@[simp] theorem cmdError_sessionId : (cmdError e s).sessionId = s.sessionId := rfl
@[simp] theorem cmdError_devId : (cmdError e s).devId = s.devId := rfl
@[simp] theorem cmdError_throttle : (cmdError e s).throttle = s.throttle := rfl
@[simp] theorem cmdError_rudder : (cmdError e s).rudder = s.rudder := rfl
@[simp] theorem cmdError_elevator : (cmdError e s).elevator = s.elevator := rfl
@[simp] theorem cmdError_aileron : (cmdError e s).aileron = s.aileron := rfl
@[simp] theorem cmdError_flags : (cmdError e s).flags = s.flags := rfl
@[simp] theorem cmdError_txpower : (cmdError e s).txpower = s.txpower := rfl
@[simp] theorem cmdError_txbuf : (cmdError e s).txbuf = s.txbuf := rfl
@[simp] theorem cmdError_rxbuf : (cmdError e s).rxbuf = s.rxbuf := rfl
@[simp] theorem cmdError_rssiSum : (cmdError e s).rssiSum = s.rssiSum := rfl
@[simp] theorem cmdError_bestIdx : (cmdError e s).bestIdx = s.bestIdx := rfl
@[simp] theorem cmdError_trace : (cmdError e s).trace = s.trace := rfl
@[simp] theorem cmdError_hostQueue : (cmdError e s).hostQueue = s.hostQueue := rfl
@[simp] theorem cmdError_hostReads : (cmdError e s).hostReads = s.hostReads := rfl
@[simp] theorem cmdError_misoQueue : (cmdError e s).misoQueue = s.misoQueue := rfl
@[simp] theorem cmdError_draws : (cmdError e s).draws = s.draws := rfl

end

/-! The transceiver's coming answers depend on the script and the counter alone (R150): an update of a register keeps them. -/

@[simp] theorem misoAt_setPins (tx rx : Bool) (s : State) (j : Nat) : misoAt (setPins tx rx s) j = misoAt s j := rfl
@[simp] theorem answers_setPins (tx rx : Bool) (s : State) (j : Nat) : answers (setPins tx rx s) j = answers s j := rfl
@[simp] theorem misoAt_countTx (s : State) (j : Nat) : misoAt (countTx s) j = misoAt s j := rfl
@[simp] theorem answers_countTx (s : State) (j : Nat) : answers (countTx s) j = answers s j := rfl
@[simp] theorem misoAt_putRx (i : Nat) (v : Byte) (s : State) (j : Nat) : misoAt (putRx i v s) j = misoAt s j := rfl
@[simp] theorem answers_putRx (i : Nat) (v : Byte) (s : State) (j : Nat) : answers (putRx i v s) j = answers s j := rfl
@[simp] theorem misoAt_putTx (p : Packet) (s : State) (j : Nat) : misoAt (putTx p s) j = misoAt s j := rfl
@[simp] theorem answers_putTx (p : Packet) (s : State) (j : Nat) : answers (putTx p s) j = answers s j := rfl
@[simp] theorem misoAt_putRssi (i : Fin 12) (n : Nat) (s : State) (j : Nat) : misoAt (putRssi i n s) j = misoAt s j := rfl
@[simp] theorem answers_putRssi (i : Fin 12) (n : Nat) (s : State) (j : Nat) : answers (putRssi i n s) j = answers s j := rfl
@[simp] theorem misoAt_goto (b : Byte) (d : Half) (s : State) (j : Nat) : misoAt (goto b d s) j = misoAt s j := rfl
@[simp] theorem answers_goto (b : Byte) (d : Half) (s : State) (j : Nat) : answers (goto b d s) j = answers s j := rfl
@[simp] theorem misoAt_countRound (s : State) (j : Nat) : misoAt (countRound s) j = misoAt s j := rfl
@[simp] theorem answers_countRound (s : State) (j : Nat) : answers (countRound s) j = answers s j := rfl
@[simp] theorem misoAt_cmdError (e : ErrorCode) (s : State) (j : Nat) : misoAt (cmdError e s) j = misoAt s j := rfl
@[simp] theorem answers_cmdError (e : ErrorCode) (s : State) (j : Nat) : answers (cmdError e s) j = answers s j := rfl

end Sys2Proof.Machine
end

