-- ==== Sys2Proof/Laws/Bus.lean ====
section
/-! SUPPORT. What the bus operations do, said once each: the bytes drawn after a frame, a poll, a packet transmission, a
reply read back. -/

namespace Sys2Proof.Machine

/-! ## The transceiver's answers -/

theorem misoAt_eq_getElem?_getD (s : State) (j : Nat) :
    misoAt s j = s.misoQueue[j]?.getD (Config.freeMiso (s.draws + j)) := by
  unfold misoAt; cases s.misoQueue[j]? <;> rfl

/-- The answers depend on the script and the counter alone. -/
theorem misoAt_congr {s t : State} (hq : t.misoQueue = s.misoQueue) (hd : t.draws = s.draws) (j : Nat) :
    misoAt t j = misoAt s j := by
  simp only [misoAt, hq, hd]

/-- A frame takes as many answers as it has bytes. -/
@[simp] theorem misoAt_xfer (m : List Byte) (s : State) (j : Nat) : misoAt (xfer m s) j = misoAt s (m.length + j) := by
  simp [misoAt_eq_getElem?_getD, Nat.add_assoc]

@[simp] theorem length_answers (s : State) (n : Nat) : (answers s n).length = n := by simp [answers]

theorem answers_congr {s t : State} (hq : t.misoQueue = s.misoQueue) (hd : t.draws = s.draws) (n : Nat) :
    answers t n = answers s n := by
  have h : misoAt t = misoAt s := funext fun j => misoAt_congr hq hd j
  rw [answers, answers, h]

theorem answers_xfer (m : List Byte) (s : State) (n : Nat) :
    answers (xfer m s) n = (answers s (m.length + n)).drop m.length := by
  apply List.ext_getElem <;> simp [answers]

@[simp] theorem misoAt_strobe (c : Byte) (s : State) (j : Nat) : misoAt (strobe c s) j = misoAt s (1 + j) :=
  misoAt_xfer [c] s j

@[simp] theorem misoAt_regWrite (a v : Byte) (s : State) (j : Nat) : misoAt (regWrite a v s) j = misoAt s (2 + j) :=
  misoAt_xfer [a ||| Param.writeFlag, v] s j

@[simp] theorem misoAt_setId (id : Word) (s : State) (j : Nat) : misoAt (setId id s) j = misoAt s (5 + j) :=
  misoAt_xfer (Param.idAddr :: be32 id) s j

@[simp] theorem misoAt_burst (d : List Byte) (s : State) (j : Nat) : misoAt (burst d s) j = misoAt s (d.length + 1 + j) :=
  misoAt_xfer (Param.fifoAddr :: d) s j

theorem answers_strobe (c : Byte) (s : State) (n : Nat) : answers (strobe c s) n = answers (xfer [c] s) n := rfl

theorem answers_regWrite (a v : Byte) (s : State) (n : Nat) :
    answers (regWrite a v s) n = answers (xfer [a ||| Param.writeFlag, v] s) n := rfl

theorem answers_burst (d : List Byte) (s : State) (n : Nat) :
    answers (burst d s) n = answers (xfer (Param.fifoAddr :: d) s) n := rfl

theorem answers_setId (id : Word) (s : State) (n : Nat) :
    answers (setId id s) n = answers (xfer (Param.idAddr :: be32 id) s) n := rfl

/-! ## Frames in a row -/

@[simp] theorem sendAll_nil (s : State) : sendAll [] s = s := rfl

@[simp] theorem sendAll_cons (m : List Byte) (fs : List (List Byte)) (s : State) :
    sendAll (m :: fs) s = sendAll fs (xfer m s) := rfl

theorem sendAll_append (fs gs : List (List Byte)) (s : State) : sendAll (fs ++ gs) s = sendAll gs (sendAll fs s) := by
  simp [sendAll]

/-- How many bytes a list of frames has. -/
theorem misoAt_sendAll (fs : List (List Byte)) (s : State) (j : Nat) :
    misoAt (sendAll fs s) j = misoAt s ((fs.map List.length).sum + j) := by
  induction fs generalizing s with
  | nil => simp
  | cons m fs ih => simp [ih, Nat.add_assoc]

/-- Frames change the trace, the script and the counter only. -/
theorem sendAll_bus (fs : List (List Byte)) (s : State) :
    sendAll fs s = { s with
      trace := (sendAll fs s).trace
      misoQueue := s.misoQueue.drop (fs.map List.length).sum
      draws := s.draws + (fs.map List.length).sum } := by
  induction fs generalizing s with
  | nil => simp
  | cons m fs ih =>
    rw [sendAll_cons, ih (xfer m s)]
    simp [Nat.add_assoc, xfer]

/-- The MOSI side of the trace after frames sent in a row. -/
theorem sendAll_mosi (fs : List (List Byte)) (s : State) :
    (sendAll fs s).trace.map Frame.mosi = s.trace.map Frame.mosi ++ fs := by
  induction fs generalizing s with
  | nil => simp
  | cons m fs ih => simp [ih]

/-- The trace is only added to, one whole frame at a time. -/
theorem sendAll_trace_all {P : Frame → Prop} (fs : List (List Byte)) (s : State) (h : ∀ f ∈ s.trace, P f)
    (hf : ∀ m ∈ fs, ∀ r : List Byte, r.length = m.length → P ⟨m, r⟩) : ∀ f ∈ (sendAll fs s).trace, P f := by
  induction fs generalizing s with
  | nil => simpa using h
  | cons m fs ih =>
    refine ih (xfer m s) ?_ (fun m' hm' => hf m' (List.mem_cons_of_mem _ hm'))
    intro f hmem
    rw [xfer_trace, List.mem_append, List.mem_singleton] at hmem
    rcases hmem with hmem | rfl
    · exact h f hmem
    · exact hf m List.mem_cons_self _ (length_answers s _)

theorem sendAll_prefix (fs : List (List Byte)) (s : State) : s.trace <+: (sendAll fs s).trace := by
  induction fs generalizing s with
  | nil => exact List.prefix_rfl
  | cons m fs ih => exact (List.prefix_append _ _).trans (ih (xfer m s))

section
variable (fs : List (List Byte)) (s : State)
@[simp] theorem sendAll_config : (sendAll fs s).config = s.config := by rw [sendAll_bus]
@[simp] theorem sendAll_cmd : (sendAll fs s).cmd = s.cmd := by rw [sendAll_bus]
@[simp] theorem sendAll_arg0 : (sendAll fs s).arg0 = s.arg0 := by rw [sendAll_bus]
@[simp] theorem sendAll_arg1 : (sendAll fs s).arg1 = s.arg1 := by rw [sendAll_bus]
@[simp] theorem sendAll_rdata : (sendAll fs s).rdata = s.rdata := by rw [sendAll_bus]
@[simp] theorem sendAll_err : (sendAll fs s).err = s.err := by rw [sendAll_bus]
@[simp] theorem sendAll_txto : (sendAll fs s).txto = s.txto := by rw [sendAll_bus]
@[simp] theorem sendAll_bfail : (sendAll fs s).bfail = s.bfail := by rw [sendAll_bus]
@[simp] theorem sendAll_errcode : (sendAll fs s).errcode = s.errcode := by rw [sendAll_bus]
@[simp] theorem sendAll_state : (sendAll fs s).state = s.state := by rw [sendAll_bus]
@[simp] theorem sendAll_channel : (sendAll fs s).channel = s.channel := by rw [sendAll_bus]
@[simp] theorem sendAll_lastStrobe : (sendAll fs s).lastStrobe = s.lastStrobe := by rw [sendAll_bus]
@[simp] theorem sendAll_txen : (sendAll fs s).txen = s.txen := by rw [sendAll_bus]
@[simp] theorem sendAll_rxen : (sendAll fs s).rxen = s.rxen := by rw [sendAll_bus]
@[simp] theorem sendAll_rebindReq : (sendAll fs s).rebindReq = s.rebindReq := by rw [sendAll_bus]
@[simp] theorem sendAll_restarts : (sendAll fs s).restarts = s.restarts := by rw [sendAll_bus]
@[simp] theorem sendAll_round : (sendAll fs s).round = s.round := by rw [sendAll_bus]
@[simp] theorem sendAll_txcount : (sendAll fs s).txcount = s.txcount := by rw [sendAll_bus]
@[simp] theorem sendAll_delayUs : (sendAll fs s).delayUs = s.delayUs := by rw [sendAll_bus]
@[simp] theorem sendAll_sessionId : (sendAll fs s).sessionId = s.sessionId := by rw [sendAll_bus]
@[simp] theorem sendAll_devId : (sendAll fs s).devId = s.devId := by rw [sendAll_bus]
@[simp] theorem sendAll_throttle : (sendAll fs s).throttle = s.throttle := by rw [sendAll_bus]
@[simp] theorem sendAll_rudder : (sendAll fs s).rudder = s.rudder := by rw [sendAll_bus]
@[simp] theorem sendAll_elevator : (sendAll fs s).elevator = s.elevator := by rw [sendAll_bus]
@[simp] theorem sendAll_aileron : (sendAll fs s).aileron = s.aileron := by rw [sendAll_bus]
@[simp] theorem sendAll_flags : (sendAll fs s).flags = s.flags := by rw [sendAll_bus]
@[simp] theorem sendAll_txpower : (sendAll fs s).txpower = s.txpower := by rw [sendAll_bus]
@[simp] theorem sendAll_txbuf : (sendAll fs s).txbuf = s.txbuf := by rw [sendAll_bus]
@[simp] theorem sendAll_rxbuf : (sendAll fs s).rxbuf = s.rxbuf := by rw [sendAll_bus]
@[simp] theorem sendAll_rssiSum : (sendAll fs s).rssiSum = s.rssiSum := by rw [sendAll_bus]
@[simp] theorem sendAll_bestIdx : (sendAll fs s).bestIdx = s.bestIdx := by rw [sendAll_bus]
@[simp] theorem sendAll_hostQueue : (sendAll fs s).hostQueue = s.hostQueue := by rw [sendAll_bus]
@[simp] theorem sendAll_hostReads : (sendAll fs s).hostReads = s.hostReads := by rw [sendAll_bus]
end

/-! ## Polls -/

theorem pollBusy_zero (s : State) : pollBusy 0 s = (.timeout, s) := rfl

theorem pollBusy_succ (k : Nat) (s : State) :
    pollBusy (k + 1) s =
      if busy s.config (misoAt s 1) then pollBusy k (xfer (pollFrame s.config) s)
      else (.clear, xfer (pollFrame s.config) s) := rfl

@[simp] theorem length_pollFrame (c : Config) : (pollFrame c).length = 2 := rfl

/-- Everything a poll can do (R157). -/
theorem pollBusy_spec (k : Nat) (s : State) :
    ∃ p late, Polled s.config (fun i => misoAt s (2 * i + 1)) k p late ∧
      pollBusy k s = (if late then .timeout else .clear, sendAll (List.replicate p (pollFrame s.config)) s) := by
  induction k generalizing s with
  | zero => exact ⟨0, true, by simp [Polled], rfl⟩
  | succ k ih =>
    rw [pollBusy_succ]
    by_cases hb : busy s.config (misoAt s 1) = true
    · rw [if_pos hb]
      obtain ⟨p, late, hp, he⟩ := ih (xfer (pollFrame s.config) s)
      refine ⟨p + 1, late, ?_, by rw [he]; rfl⟩
      have hshift : ∀ i, misoAt (xfer (pollFrame s.config) s) (2 * i + 1) = misoAt s (2 * (i + 1) + 1) := fun i => by
        rw [misoAt_xfer, length_pollFrame]; congr 1; omega
      simp only [hshift, xfer_config] at hp
      cases late
      · obtain ⟨h1, h2, h3, h4⟩ := hp
        refine ⟨by omega, by omega, ?_, ?_⟩
        · intro i hi
          rcases i with _ | i
          · exact hb
          · exact h3 i (by omega)
        · obtain ⟨q, rfl⟩ : ∃ q, p = q + 1 := ⟨p - 1, by omega⟩
          exact h4
      · obtain ⟨h1, h2⟩ := hp
        refine ⟨by omega, ?_⟩
        intro i hi
        rcases i with _ | i
        · exact hb
        · exact h2 i (by omega)
    · rw [if_neg hb]
      exact ⟨1, false, by simpa [Polled] using hb, rfl⟩

/-- A completion poll sends its polls and may set `TXTO` (R155, R252). -/
theorem pollCompletion_spec (k : Nat) (s : State) :
    ∃ p late, Polled s.config (fun i => misoAt s (2 * i + 1)) k p late ∧
      pollCompletion k s =
        { sendAll (List.replicate p (pollFrame s.config)) s with txto := s.txto || late } := by
  obtain ⟨p, late, hp, he⟩ := pollBusy_spec k s
  refine ⟨p, late, hp, ?_⟩
  rw [pollCompletion, he]
  cases late
  · apply State.ext <;> simp
  · apply State.ext <;> simp

/-! ## A packet sent, a reply read -/

@[simp] theorem length_txBytes (s : State) (n : Nat) : (txBytes s n).length = min n 16 := by simp [txBytes]

/-- A register update that frames do not look at may be made before or after them. -/
theorem sendAll_comm (g : State → State) (hg : ∀ m t, xfer m (g t) = g (xfer m t)) (fs : List (List Byte)) (s : State) :
    sendAll fs (g s) = g (sendAll fs s) := by
  induction fs generalizing s with
  | nil => rfl
  | cons m fs ih => rw [sendAll_cons, hg, ih, sendAll_cons]

@[simp] theorem or_writeFlag (v : Byte) : v ||| Param.writeFlag = v := by simp [Param.writeFlag]

/-- The registers a packet transmission leaves, before its polls. -/
def onAir (t : State) : State :=
  { t with lastStrobe := t.config.strobeTx, txcount := t.txcount + 1, txen := true, rxen := false }

theorem misoAt_onAir (t : State) (j : Nat) : misoAt (onAir t) j = misoAt t j := rfl

/-- A packet transmission up to its polls (R155). -/
theorem writePacket_frames (n : Nat) (ch : Byte) (s : State) :
    writePacket n ch s =
      setPins false true (pollAfterWrite (onAir (sendAll (packetFrames s.config (txBytes s n) ch) s))) := by
  simp only [writePacket]
  refine congrArg (fun t => setPins false true (pollAfterWrite t)) ?_
  apply State.ext <;>
    simp [onAir, packetFrames, txBytes, answers_strobe, answers_regWrite, answers_burst, answers_xfer, Param.fifoAddr]

/-- Everything a packet transmission can do (R155). -/
theorem writePacket_wrote (n : Nat) (ch : Byte) (s : State) (hn : n ≤ 16) : Wrote n ch s (writePacket n ch s) := by
  rw [writePacket_frames]
  have hm : ∀ j, misoAt (onAir (sendAll (packetFrames s.config (txBytes s n) ch) s)) j = misoAt s (5 + n + j) := fun j => by
    rw [misoAt_onAir, misoAt_sendAll]
    congr 1
    simp [packetFrames, Nat.min_eq_left hn]
    omega
  have hc : (onAir (sendAll (packetFrames s.config (txBytes s n) ch) s)).config = s.config := by simp [onAir]
  by_cases h0 : s.config.txPollMax = 0
  · refine ⟨0, false, by simp [h0], ?_⟩
    rw [pollAfterWrite, hc, if_neg (by omega)]
    apply State.ext <;> simp [onAir, txBytes]
  · obtain ⟨p, late, hp, he⟩ := pollCompletion_spec s.config.txPollMax _
    refine ⟨p, late, ?_, ?_⟩
    · rw [if_neg h0]
      rw [hc] at hp
      simpa only [hm, Nat.add_assoc] using hp
    · rw [pollAfterWrite, hc, if_pos (by omega), he, hc, sendAll_append, onAir,
        sendAll_comm (fun t : State => { t with lastStrobe := t.config.strobeTx, txcount := t.txcount + 1, txen := true, rxen := false }) (fun _ _ => rfl)]
      apply State.ext <;> simp [txBytes]

/-- The reads of a reply, from `RXBUF[i]` on (R156). -/
theorem readFifo_spec (k i : Nat) (s : State) :
    readFifo k i s = { sendAll (List.replicate k (readFrame s.config Param.fifoAddr)) s with
      rxbuf := Vector.ofFn fun j : Fin 16 =>
        if i ≤ j.val ∧ j.val < i + k then misoAt s (2 * (j.val - i) + 1) else s.rxbuf[j] } := by
  induction k generalizing i s with
  | zero => apply State.ext <;> simp [readFifo, Vector.ext_iff]
  | succ k ih =>
    have hstep : readFifo (k + 1) i s =
        readFifo k (i + 1) (putRx i (misoAt s 1) (xfer (readFrame s.config Param.fifoAddr) s)) := rfl
    rw [hstep, ih, putRx_config, xfer_config, List.replicate_succ, sendAll_cons]
    have hcomm := sendAll_comm (fun t : State => { t with rxbuf := s.rxbuf.setIfInBounds i (misoAt s 1) }) (fun _ _ => rfl)
      (List.replicate k (readFrame s.config Param.fifoAddr)) (xfer (readFrame s.config Param.fifoAddr) s)
    have hput : putRx i (misoAt s 1) (xfer (readFrame s.config Param.fifoAddr) s) =
        { xfer (readFrame s.config Param.fifoAddr) s with rxbuf := s.rxbuf.setIfInBounds i (misoAt s 1) } := rfl
    rw [hput, hcomm]
    have hm : ∀ j, misoAt { xfer (readFrame s.config Param.fifoAddr) s with rxbuf := s.rxbuf.setIfInBounds i (misoAt s 1) } j =
        misoAt s (2 + j) := fun j => misoAt_xfer (readFrame s.config Param.fifoAddr) s j
    simp only [hm]
    congr 1
    apply Vector.ext
    intro j hj
    simp only [Vector.getElem_ofFn, Fin.getElem_fin, Vector.getElem_setIfInBounds hj]
    by_cases h : i = j
    · subst h; simp
    · by_cases h' : i + 1 ≤ j ∧ j < i + 1 + k
      · rw [if_pos h', if_pos (by omega)]; congr 1; omega
      · rw [if_neg h', if_neg h, if_neg (by omega)]

/-- A frame then its record in `LAST_STROBE`: the record does not reach later frames. -/
theorem sendAll_strobe (fs : List (List Byte)) (c : Byte) (s : State) :
    sendAll fs (strobe c s) = { sendAll ([c] :: fs) s with lastStrobe := c } :=
  sendAll_comm (fun t : State => { t with lastStrobe := c }) (fun _ _ => rfl) fs (xfer [c] s)

theorem readFrame_fifoAddr (c : Config) : readFrame c Param.fifoAddr = [0x45, c.dummyByte] := rfl

/-- Everything a reply read back can do (R156). -/
theorem readPacket_readBack (n : Nat) (s : State) : ReadBack n s (readPacket n s) := by
  rw [ReadBack, readPacket, readFifo_spec, sendAll_strobe, strobe_config, readFrame_fifoAddr]
  apply State.ext
  case rxbuf => exact Vector.ext fun j hj => by simp [Nat.add_comm 1]
  all_goals rfl

end Sys2Proof.Machine
end

