-- ==== Sys2Proof/Laws/Bytes.lean ====
section
/-! SUPPORT. Bytes in and out of the wider registers (R87): big-endian bytes put together and taken apart. -/

namespace Sys2Proof.Machine

theorem byteOf_append (v : Word) : byteOf v 0 ++ byteOf v 1 ++ byteOf v 2 ++ byteOf v 3 = v := by
  apply BitVec.eq_of_getLsbD_eq
  intro i hi
  simp only [byteOf, BitVec.getLsbD_append, BitVec.getLsbD_extractLsb']
  simp
  split_ifs <;> grind

theorem fromBe32_be32 (v : Word) :
    fromBe32 (v.extractLsb' 24 8) (v.extractLsb' 16 8) (v.extractLsb' 8 8) (v.extractLsb' 0 8) = v := byteOf_append v

theorem be32_fromBe32 (b0 b1 b2 b3 : Byte) : be32 (fromBe32 b0 b1 b2 b3) = [b0, b1, b2, b3] := by
  simp only [be32, fromBe32, List.cons.injEq, and_true]
  refine ⟨?_, ?_, ?_, ?_⟩ <;>
  · apply BitVec.eq_of_getLsbD_eq
    intro i hi
    simp [hi]
    grind

theorem highByte_append (v : Half) : highByte v ++ lowByte v = v := by
  apply BitVec.eq_of_getLsbD_eq
  intro i hi
  simp [highByte, lowByte]
  grind

theorem byteOf_withByte (v : Word) (i j : Fin 4) (b : Byte) :
    byteOf (withByte v i b) j = if j = i then b else byteOf v j := by
  have h := be32_fromBe32
  simp only [be32, List.cons.injEq, and_true] at h
  fin_cases i <;> fin_cases j <;> simp [withByte, byteOf, h]

end Sys2Proof.Machine
end

