-- ==== Sys2Proof/Laws/Encoding.lean ====
section
/-! SUPPORT. The first byte of a register frame, and what the constraints on the parameters say. -/

namespace Sys2Proof

/-- The first byte of a READ frame (R115) and its fields. -/
theorem readFirst (a : BitVec 6) :
    (0b01#2 ++ a).getLsbD 7 = false ∧ (0b01#2 ++ a).getLsbD 6 = true ∧ (0b01#2 ++ a).extractLsb' 0 6 = a := by
  revert a; decide

/-- The first byte of a WRITE frame (R116) and its fields. -/
theorem writeFirst (a : BitVec 6) :
    (0b00#2 ++ a).getLsbD 7 = false ∧ (0b00#2 ++ a).getLsbD 6 = false ∧ (0b00#2 ++ a).extractLsb' 0 6 = a := by
  revert a; decide

/-- A byte with bit 7 clear and bit 6 set is a READ frame's first byte (R120). -/
theorem readFirst_of_bits : ∀ b : Byte, b.getLsbD 7 = false → b.getLsbD 6 = true → 0b01#2 ++ b.extractLsb' 0 6 = b := by
  decide

/-- A byte with bits 7:6 clear is the first byte of a write (R120). -/
theorem writeFirst_of_bits : ∀ b : Byte, b.getLsbD 7 = false → b.getLsbD 6 = false → 0b00#2 ++ b.extractLsb' 0 6 = b := by
  decide

/-- Every opcode of R113's illegal range, and no other, is read as illegal. -/
theorem decodeCommand_illegal (op : Byte) (h : 0x0E ≤ op.toNat) : decodeCommand op = .illegalOpcode op := by
  unfold decodeCommand
  split <;> first | omega | rfl

namespace Machine

/-- A first byte with the read flag, from a byte that is a register address (R121). -/
theorem addrByte_or_readFlag (a : BitVec 6) : addrByte a ||| Param.readFlag = 0b01#2 ++ a := by revert a; decide

/-- A first byte with the write flag (R121). -/
theorem addrByte_eq (a : BitVec 6) : addrByte a = 0b00#2 ++ a := by revert a; decide

/-- An address in range is one of six bits (R115). -/
theorem eq_addrByte : ∀ b : Byte, b.toNat ≤ 0x3F → b = addrByte (b.extractLsb' 0 6) := by decide

/-- The arms of the reachable state bytes, one by one (R125). -/
theorem selectArm_isSome : ∀ b : Byte, (selectArm b).isSome = true ↔
    b ∈ ([0x00, 0x01, 0x02, 0x03, 0x04, 0x05, 0x06, 0x07, 0x08, 0x09, 0x0A, 0x0B, 0x0C, 0x0E, 0x0F, 0x80, 0x82, 0x84, 0x86] :
      List Byte) := by decide

end Machine

/-- The constraints on a configuration, taken apart (R9). -/
theorem Config.wf_spec {c : Config} (h : c.wf = true) :
    c.flagsIndex ∈ Config.freeDataBytes ∧ (1 ≤ c.seqByteIndex ∧ c.seqByteIndex ≤ 14) ∧
    (1 ≤ c.rssiSamples ∧ c.rssiSamples ≤ 257) ∧ c.txPollMax ≤ 255 ∧ (1 ≤ c.txdonePolls ∧ c.txdonePolls ≤ 255) ∧
    (1 ≤ c.seqListenPolls ∧ c.seqListenPolls ≤ 255) ∧ c.bindMaxRestarts ≤ 255 ∧ c.strobes.Nodup ∧
    (∀ b ∈ c.strobes, b.getLsbD 7 = true) ∧ (∀ a ∈ c.ownAddresses, a.toNat ≤ Param.regAddrMax) := by
  simp only [Config.wf, Bool.and_eq_true, decide_eq_true_eq, List.all_eq_true] at h
  obtain ⟨⟨⟨⟨⟨⟨⟨⟨⟨h1, h2⟩, h3⟩, h4⟩, h5⟩, h6⟩, h7⟩, h8⟩, h9⟩, h10⟩ := h
  exact ⟨h1, h2, h3, h4, h5, h6, h7, h8, h9, h10⟩

end Sys2Proof
end

