-- ==== Sys2Proof/Laws/Moved.lean ====
section
/-! SUPPORT. What no bus sequence and no packet build changes, said once for all of them, and what they do to the trace. -/

namespace Sys2Proof.Machine

/-- `t` comes from `s` by frames, packet builds and reads into `RXBUF`: the session's registers and the host's are kept,
the trace is added to, legally if the parameters meet R9, `LAST_STROBE` holds a strobe if it has changed, and the outputs
are back in receive if they were there. -/
structure Moved (s t : State) : Prop where
  config : t.config = s.config
  cmd : t.cmd = s.cmd
  arg0 : t.arg0 = s.arg0
  arg1 : t.arg1 = s.arg1
  rdata : t.rdata = s.rdata
  err : t.err = s.err
  bfail : t.bfail = s.bfail
  errcode : t.errcode = s.errcode
  state : t.state = s.state
  channel : t.channel = s.channel
  rebindReq : t.rebindReq = s.rebindReq
  restarts : t.restarts = s.restarts
  delayUs : t.delayUs = s.delayUs
  sessionId : t.sessionId = s.sessionId
  throttle : t.throttle = s.throttle
  rudder : t.rudder = s.rudder
  elevator : t.elevator = s.elevator
  aileron : t.aileron = s.aileron
  flags : t.flags = s.flags
  txpower : t.txpower = s.txpower
  rssiSum : t.rssiSum = s.rssiSum
  bestIdx : t.bestIdx = s.bestIdx
  hostQueue : t.hostQueue = s.hostQueue
  hostReads : t.hostReads = s.hostReads
  trace : ∃ fs, t.trace = s.trace ++ fs ∧ (s.config.wf = true → ∀ f ∈ fs, FrameLegal s.config f)
  lastStrobe : t.lastStrobe = s.lastStrobe ∨ t.lastStrobe ∈ s.config.strobes
  pins : s.txen = false → s.rxen = true → t.txen = false ∧ t.rxen = true

theorem Moved.refl (s : State) : Moved s s := by
  constructor
  case trace => exact ⟨[], by simp, fun _ f hf => by simp at hf⟩
  case lastStrobe => exact .inl rfl
  case pins => exact fun h h' => ⟨h, h'⟩
  all_goals rfl

theorem Moved.trans {s t u : State} (h : Moved s t) (h' : Moved t u) : Moved s u := by
  constructor
  case trace =>
    obtain ⟨fs, e, l⟩ := h.trace
    obtain ⟨fs', e', l'⟩ := h'.trace
    refine ⟨fs ++ fs', by rw [e', e, List.append_assoc], fun hw f hf => ?_⟩
    rcases List.mem_append.1 hf with hf | hf
    · exact l hw f hf
    · have := l' (by rw [h.config]; exact hw) f hf
      rwa [h.config] at this
  case lastStrobe =>
    rcases h'.lastStrobe with e | e
    · rw [e]; exact h.lastStrobe
    · rw [h.config] at e; exact .inr e
  case pins => exact fun a b => h'.pins (h.pins a b).1 (h.pins a b).2
  case config => rw [h'.config, h.config]
  case cmd => rw [h'.cmd, h.cmd]
  case arg0 => rw [h'.arg0, h.arg0]
  case arg1 => rw [h'.arg1, h.arg1]
  case rdata => rw [h'.rdata, h.rdata]
  case err => rw [h'.err, h.err]
  case bfail => rw [h'.bfail, h.bfail]
  case errcode => rw [h'.errcode, h.errcode]
  case state => rw [h'.state, h.state]
  case channel => rw [h'.channel, h.channel]
  case rebindReq => rw [h'.rebindReq, h.rebindReq]
  case restarts => rw [h'.restarts, h.restarts]
  case delayUs => rw [h'.delayUs, h.delayUs]
  case sessionId => rw [h'.sessionId, h.sessionId]
  case throttle => rw [h'.throttle, h.throttle]
  case rudder => rw [h'.rudder, h.rudder]
  case elevator => rw [h'.elevator, h.elevator]
  case aileron => rw [h'.aileron, h.aileron]
  case flags => rw [h'.flags, h.flags]
  case txpower => rw [h'.txpower, h.txpower]
  case rssiSum => rw [h'.rssiSum, h.rssiSum]
  case bestIdx => rw [h'.bestIdx, h.bestIdx]
  case hostQueue => rw [h'.hostQueue, h.hostQueue]
  case hostReads => rw [h'.hostReads, h.hostReads]

/-! ## Legal frames -/

theorem toNat_addrByte (a : BitVec 6) : (addrByte a).toNat = a.toNat := by revert a; decide

theorem decodeFrame_readFrame (c : Config) (a : BitVec 6) (h : a.toNat ≤ Param.regAddrMax) :
    decodeFrame c (readFrame c (addrByte a)) = .ok (.spiRead a) := by
  obtain ⟨h1, h2, h3⟩ := readFirst a
  simp only [readFrame, addrByte_or_readFlag, decodeFrame, decodeRead, h1, h2, h3, if_neg (Nat.not_lt.2 h)]
  simp

theorem decodeFrame_read (c : Config) (a : Byte) (h : a.toNat ≤ Param.regAddrMax) :
    ∃ i, decodeFrame c (readFrame c a) = .ok i := by
  simp only [Param.regAddrMax] at h
  obtain ⟨b, rfl⟩ : ∃ b, a = addrByte b := ⟨_, eq_addrByte a (by omega)⟩
  exact ⟨_, decodeFrame_readFrame c b (by rwa [toNat_addrByte] at h)⟩

theorem decodeFrame_write (c : Config) (a v : Byte) (h : a.toNat ≤ Param.regAddrMax) :
    ∃ i, decodeFrame c [a, v] = .ok i := by
  simp only [Param.regAddrMax] at h
  obtain ⟨b, rfl⟩ : ∃ b, a = addrByte b := ⟨_, eq_addrByte a (by omega)⟩
  have hb : b.toNat ≤ Param.regAddrMax := by rwa [toNat_addrByte] at h
  obtain ⟨h1, h2, h3⟩ := writeFirst b
  simp only [addrByte_eq, decodeFrame, decodeWrite, h1, h2, h3, if_neg (Nat.not_lt.2 hb)]
  by_cases hf : (0b00#2 ++ b) = Param.fifoAddr
  · exact ⟨.spiBurst [v], by simp [hf, Param.fifoDepth]⟩
  · exact ⟨.spiWrite b v, by simp [hf]⟩

theorem decodeFrame_strobe (c : Config) (hw : c.wf = true) (b : Byte) (h : b ∈ c.strobes) :
    ∃ i, decodeFrame c [b] = .ok i := by
  have h7 := (Config.wf_spec hw).2.2.2.2.2.2.2.2.1 b h
  simp only [decodeFrame, h7, if_true, decodeStrobe]
  simp only [Config.strobes, List.mem_cons, List.not_mem_nil, or_false] at h
  split_ifs <;> first | exact ⟨_, rfl⟩ | (exfalso; tauto)

theorem decodeFrame_burst (c : Config) (d : List Byte) (h : 1 ≤ d.length ∧ d.length ≤ Param.fifoDepth) :
    decodeFrame c (Param.fifoAddr :: d) = .ok (.spiBurst d) := by
  simp only [Param.fifoDepth] at h
  simp [decodeFrame, decodeWrite, Param.fifoAddr, Param.fifoDepth, h]

theorem decodeFrame_id (c : Config) (id : Word) : decodeFrame c (Param.idAddr :: be32 id) = .ok (.spiId id) := by
  simp only [decodeFrame, decodeWrite, be32, Param.idAddr, Param.fifoAddr]
  simp [fromBe32_be32]

/-! ## The primitives -/

/-- A frame that is an instruction of the frame space. -/
theorem moved_xfer {s : State} (m : List Byte) (h : s.config.wf = true → ∃ i, decodeFrame s.config m = .ok i) :
    Moved s (xfer m s) := by
  constructor
  case trace =>
    refine ⟨[⟨m, answers s m.length⟩], rfl, fun hw f hf => ?_⟩
    rw [List.mem_singleton] at hf
    subst hf
    exact ⟨length_answers s _, h hw⟩
  case lastStrobe => exact .inl rfl
  case pins => exact fun h h' => ⟨h, h'⟩
  all_goals rfl

theorem moved_regRead {s : State} (a : Byte) (h : s.config.wf = true → a.toNat ≤ Param.regAddrMax) :
    Moved s (regRead a s).2 :=
  moved_xfer _ fun hw => decodeFrame_read _ a (h hw)

theorem moved_regWrite {s : State} (a v : Byte) (h : s.config.wf = true → a.toNat ≤ Param.regAddrMax) :
    Moved s (regWrite a v s) := by
  refine moved_xfer _ fun hw => ?_
  rw [or_writeFlag]
  exact decodeFrame_write _ a v (h hw)

theorem moved_strobe {s : State} (b : Byte) (h : b ∈ s.config.strobes) : Moved s (strobe b s) := by
  have hx := moved_xfer [b] fun hw => decodeFrame_strobe s.config hw b h
  constructor
  case trace => exact hx.trace
  case lastStrobe => exact .inr h
  case pins => exact fun h h' => ⟨h, h'⟩
  all_goals rfl

theorem moved_burst {s : State} (d : List Byte) (h : 1 ≤ d.length ∧ d.length ≤ Param.fifoDepth) : Moved s (burst d s) :=
  moved_xfer _ fun _ => ⟨_, decodeFrame_burst _ d h⟩

theorem moved_setId {s : State} (id : Word) : Moved s (setId id s) := by
  have hx := moved_xfer (s := s) (Param.idAddr :: be32 id) fun _ => ⟨_, decodeFrame_id _ id⟩
  constructor
  case trace => exact hx.trace
  case lastStrobe => exact .inl rfl
  case pins => exact fun h h' => ⟨h, h'⟩
  all_goals rfl

/-- An update of the fields that `Moved` does not speak of. -/
theorem moved_update (s : State) (txto : Bool) (round txcount : Byte) (devId : Word) (txbuf rxbuf : Packet) :
    Moved s { s with txto := txto, round := round, txcount := txcount, devId := devId, txbuf := txbuf, rxbuf := rxbuf } := by
  constructor
  case trace => exact ⟨[], by simp, fun _ f hf => by simp at hf⟩
  case lastStrobe => exact .inl rfl
  case pins => exact fun h h' => ⟨h, h'⟩
  all_goals rfl

theorem moved_putTx (p : Packet) (s : State) : Moved s (putTx p s) := moved_update s s.txto s.round s.txcount s.devId _ s.rxbuf
theorem moved_buildBind (lvl : Byte) (s : State) : Moved s (buildBind lvl s) := moved_putTx _ s
theorem moved_buildData (s : State) : Moved s (buildData s) := moved_putTx _ s
theorem moved_buildRound (i : Nat) (s : State) : Moved s (buildRound i s) :=
  (moved_buildBind 9 s).trans (moved_putTx _ _)
theorem moved_countRound (s : State) : Moved s (countRound s) := moved_update s s.txto _ s.txcount s.devId s.txbuf s.rxbuf

/-- The addresses of the block's own sequences are in range (R84). -/
theorem own_le {c : Config} (hw : c.wf = true) {a : Byte} (h : a ∈ c.ownAddresses) : a.toNat ≤ Param.regAddrMax :=
  (Config.wf_spec hw).2.2.2.2.2.2.2.2.2 a h

theorem moved_regRead_own {s : State} (a : Byte) (h : a ∈ s.config.ownAddresses) : Moved s (regRead a s).2 :=
  moved_regRead a fun hw => own_le hw h

theorem moved_regWrite_own {s : State} (a v : Byte) (h : a ∈ s.config.ownAddresses) : Moved s (regWrite a v s) :=
  moved_regWrite a v fun hw => own_le hw h

theorem moved_pollBusy (k : Nat) (s : State) : Moved s (pollBusy k s).2 := by
  induction k generalizing s with
  | zero => exact Moved.refl s
  | succ k ih =>
    have h : Moved s (xfer (pollFrame s.config) s) := moved_regRead_own s.config.modeReg (by simp [Config.ownAddresses])
    rw [pollBusy_succ]
    split
    · exact h.trans (ih _)
    · exact h

theorem moved_pollCompletion (k : Nat) (s : State) : Moved s (pollCompletion k s) := by
  have h := moved_pollBusy k s
  unfold pollCompletion
  rcases hp : pollBusy k s with ⟨_ | _, t⟩ <;> rw [hp] at h
  · exact h
  · exact h.trans (moved_update t true t.round t.txcount t.devId t.txbuf t.rxbuf)

/-- Frames that are instructions of the frame space, in a row. -/
theorem moved_sendAll (fs : List (List Byte)) (s : State)
    (h : s.config.wf = true → ∀ m ∈ fs, ∃ i, decodeFrame s.config m = .ok i) : Moved s (sendAll fs s) := by
  induction fs generalizing s with
  | nil => exact Moved.refl s
  | cons m fs ih =>
    exact (moved_xfer m fun hw => h hw m List.mem_cons_self).trans
      (ih _ fun hw m' hm' => h hw m' (List.mem_cons_of_mem _ hm'))

/-- The outputs back to receive (R158). -/
theorem Moved.toReceive {s t : State} (h : Moved s t) : Moved s (setPins false true t) := by
  constructor
  case trace => exact h.trace
  case lastStrobe => exact h.lastStrobe
  case pins => exact fun _ _ => ⟨rfl, rfl⟩
  case config => exact h.config
  case cmd => exact h.cmd
  case arg0 => exact h.arg0
  case arg1 => exact h.arg1
  case rdata => exact h.rdata
  case err => exact h.err
  case bfail => exact h.bfail
  case errcode => exact h.errcode
  case state => exact h.state
  case channel => exact h.channel
  case rebindReq => exact h.rebindReq
  case restarts => exact h.restarts
  case delayUs => exact h.delayUs
  case sessionId => exact h.sessionId
  case throttle => exact h.throttle
  case rudder => exact h.rudder
  case elevator => exact h.elevator
  case aileron => exact h.aileron
  case flags => exact h.flags
  case txpower => exact h.txpower
  case rssiSum => exact h.rssiSum
  case bestIdx => exact h.bestIdx
  case hostQueue => exact h.hostQueue
  case hostReads => exact h.hostReads

/-- A packet transmission (R155). -/
theorem moved_writePacket (n : Nat) (ch : Byte) (s : State) (hn : 1 ≤ n ∧ n ≤ 16) : Moved s (writePacket n ch s) := by
  obtain ⟨p, late, -, e⟩ := writePacket_wrote n ch s hn.2
  have h : Moved s (sendAll (packetFrames s.config (s.txbuf.toList.take n) ch ++ List.replicate p (pollFrame s.config)) s) := by
    refine moved_sendAll _ s fun hw m hm => ?_
    simp only [packetFrames, List.mem_append, List.mem_cons, List.not_mem_nil, or_false, List.mem_replicate] at hm
    rcases hm with (rfl | rfl | rfl | rfl) | ⟨-, rfl⟩
    · exact decodeFrame_strobe _ hw _ (by simp [Config.strobes])
    · exact ⟨_, decodeFrame_burst _ _ (by simp [Param.fifoDepth]; omega)⟩
    · exact decodeFrame_write _ _ _ (own_le hw (by simp [Config.ownAddresses]))
    · exact decodeFrame_strobe _ hw _ (by simp [Config.strobes])
    · exact decodeFrame_read _ _ (own_le hw (by simp [Config.ownAddresses]))
  rw [e]
  constructor
  case trace => exact h.trace
  case lastStrobe => exact .inr (by simp [Config.strobes])
  case pins => exact fun _ _ => ⟨rfl, rfl⟩
  case config => exact h.config
  case cmd => exact h.cmd
  case arg0 => exact h.arg0
  case arg1 => exact h.arg1
  case rdata => exact h.rdata
  case err => exact h.err
  case bfail => exact h.bfail
  case errcode => exact h.errcode
  case state => exact h.state
  case channel => exact h.channel
  case rebindReq => exact h.rebindReq
  case restarts => exact h.restarts
  case delayUs => exact h.delayUs
  case sessionId => exact h.sessionId
  case throttle => exact h.throttle
  case rudder => exact h.rudder
  case elevator => exact h.elevator
  case aileron => exact h.aileron
  case flags => exact h.flags
  case txpower => exact h.txpower
  case rssiSum => exact h.rssiSum
  case bestIdx => exact h.bestIdx
  case hostQueue => exact h.hostQueue
  case hostReads => exact h.hostReads

/-- A reply read back (R156). -/
theorem moved_readPacket (n : Nat) (s : State) : Moved s (readPacket n s) := by
  have e : ReadBack n s (readPacket n s) := readPacket_readBack n s
  have h : Moved s (sendAll ([s.config.strobeRstRdptr] :: List.replicate n [0x45, s.config.dummyByte]) s) := by
    refine moved_sendAll _ s fun hw m hm => ?_
    simp only [List.mem_cons, List.mem_replicate] at hm
    rcases hm with rfl | ⟨-, rfl⟩
    · exact decodeFrame_strobe _ hw _ (by simp [Config.strobes])
    · exact decodeFrame_read _ Param.fifoAddr (by decide)
  rw [ReadBack] at e
  rw [e]
  constructor
  case trace => exact h.trace
  case lastStrobe => exact .inr (by simp [Config.strobes])
  case pins => exact h.pins
  case config => exact h.config
  case cmd => exact h.cmd
  case arg0 => exact h.arg0
  case arg1 => exact h.arg1
  case rdata => exact h.rdata
  case err => exact h.err
  case bfail => exact h.bfail
  case errcode => exact h.errcode
  case state => exact h.state
  case channel => exact h.channel
  case rebindReq => exact h.rebindReq
  case restarts => exact h.restarts
  case delayUs => exact h.delayUs
  case sessionId => exact h.sessionId
  case throttle => exact h.throttle
  case rudder => exact h.rudder
  case elevator => exact h.elevator
  case aileron => exact h.aileron
  case flags => exact h.flags
  case txpower => exact h.txpower
  case rssiSum => exact h.rssiSum
  case bestIdx => exact h.bestIdx
  case hostQueue => exact h.hostQueue
  case hostReads => exact h.hostReads

/-! ## The sequences of `BIND_SEQ` and `SCAN` -/

/-- One attempt of an exchange, up to the end of its listening (R264). -/
def attempt (s : State) : Poll × State :=
  pollBusy s.config.seqListenPolls (strobe s.config.strobeRx (writePacket Param.pktLen s.channel s))

theorem exchange_clear {k : Nat} {s u : State} (h : attempt s = (.clear, u)) :
    exchange (k + 1) s = (.ok, countRound (readPacket Param.pktLen u)) := by
  have hw := (moved_writePacket Param.pktLen s.channel s (by decide)).config
  simp only [attempt] at h
  simp only [exchange, strobe_config, hw, h]

theorem exchange_timeout {k : Nat} {s u : State} (h : attempt s = (.timeout, u)) :
    exchange (k + 1) s = exchange k (strobe s.config.strobeStandby u) := by
  have hw := (moved_writePacket Param.pktLen s.channel s (by decide)).config
  have hp := (moved_pollBusy s.config.seqListenPolls (strobe s.config.strobeRx (writePacket Param.pktLen s.channel s))).config
  simp only [attempt] at h
  rw [h] at hp
  simp only [strobe_config, hw] at hp
  simp only [exchange, strobe_config, hw, h, hp]

theorem moved_attempt (s : State) : Moved s (attempt s).2 := by
  have h := moved_writePacket Param.pktLen s.channel s (by decide)
  refine (h.trans (moved_strobe s.config.strobeRx ?_)).trans (moved_pollBusy _ _)
  rw [h.config]; simp [Config.strobes]

theorem moved_exchange (k : Nat) (s : State) : Moved s (exchange k s).2 := by
  induction k generalizing s with
  | zero => exact Moved.refl s
  | succ k ih =>
    have h := moved_attempt s
    rcases ha : attempt s with ⟨_ | _, u⟩ <;> rw [ha] at h
    · rw [exchange_clear ha]
      exact (h.trans (moved_readPacket _ _)).trans (moved_countRound _)
    · rw [exchange_timeout ha]
      refine (h.trans (moved_strobe s.config.strobeStandby ?_)).trans (ih _)
      rw [h.config]; simp [Config.strobes]

theorem moved_exchangeLevel (lvl : Byte) (s : State) : Moved s (exchangeLevel lvl s).2 :=
  (moved_buildBind lvl s).trans (moved_exchange _ _)

theorem moved_exchangeRounds (k i : Nat) (s : State) : Moved s (exchangeRounds k i s).2 := by
  induction k generalizing i s with
  | zero => exact Moved.refl s
  | succ k ih =>
    have h := (moved_buildRound i s).trans (moved_exchange s.config.seqMaxAttempts (buildRound i s))
    simp only [exchangeRounds]
    split <;> rename_i u heq <;> rw [heq] at h
    · exact h.trans (ih _ _)
    · exact h

/-! ## `ROUND` -/

@[simp] theorem round_pollBusy (k : Nat) (s : State) : (pollBusy k s).2.round = s.round := by
  induction k generalizing s with
  | zero => rfl
  | succ k ih =>
    rw [pollBusy_succ]
    split
    · exact ih _
    · rfl

@[simp] theorem round_pollCompletion (k : Nat) (s : State) : (pollCompletion k s).round = s.round := by
  have h := round_pollBusy k s
  unfold pollCompletion
  rcases hp : pollBusy k s with ⟨_ | _, t⟩ <;> rw [hp] at h <;> exact h

@[simp] theorem round_writePacket (n : Nat) (ch : Byte) (s : State) : (writePacket n ch s).round = s.round := by
  simp only [writePacket, pollAfterWrite]
  split <;> simp

@[simp] theorem round_readPacket (n : Nat) (s : State) : (readPacket n s).round = s.round := by
  rw [(readPacket_readBack n s : ReadBack n s _)]; simp

/-- An exchange counts one round if it ends well, none otherwise (R264). -/
theorem round_exchange (k : Nat) (s : State) :
    (exchange k s).2.round = if (exchange k s).1 = .ok then s.round + 1 else s.round := by
  induction k generalizing s with
  | zero => rfl
  | succ k ih =>
    have h : (attempt s).2.round = s.round := by simp [attempt]
    rcases ha : attempt s with ⟨_ | _, u⟩ <;> rw [ha] at h
    · rw [exchange_clear ha]
      simpa [countRound] using h
    · rw [exchange_timeout ha, ih]
      rw [strobe_round, h]

end Sys2Proof.Machine
end

