-- ==== Sys2Proof/Laws/Arms.lean ====
section
/-! SUPPORT. What an arm of `TICK` can do, whichever it is: frames and packet builds, then the session's own registers. -/

namespace Sys2Proof.Machine

/-- The session's registers: `STATE`, `RESTARTS`, `DELAY_US`, `BFAIL`, `REBIND_REQ`. -/
def setSession (st r : Byte) (d : Half) (b q : Bool) (u : State) : State :=
  { u with state := st, restarts := r, delayUs := d, bfail := b, rebindReq := q }

/-- `t` comes from `s` by frames, packet builds and reads into `RXBUF`, then a write of the session's registers that leaves
`STATE` reachable and not `IDLE`. -/
def SessionMoved (s t : State) : Prop :=
  ∃ (u : State) (st r : Byte) (d : Half) (b q : Bool),
    Moved s u ∧ u.round = s.round ∧ st ∈ reachableStates ∧ st ≠ 0x0F ∧ t = setSession st r d b q u

/-- `TICK` runs the arm that the state byte selects (R246). -/
theorem exec_tick {s : State} {b : Byte} {arm : TickArm} (hs : s.state = b) (h : selectArm b = some arm) :
    exec .tick s = .next (runArm arm s) := by
  subst hs; simp only [exec, execTick, h]

theorem sessionMoved_goto {s u : State} (hm : Moved s u) (hr : u.round = s.round) (b : Byte) (d : Half)
    (hb : b ∈ reachableStates ∧ b ≠ 0x0F) : SessionMoved s (goto b d u) :=
  ⟨u, b, u.restarts, d, u.bfail, u.rebindReq, hm, hr, hb.1, hb.2, rfl⟩

theorem sessionMoved_bindFailure {s u : State} (hm : Moved s u) (hr : u.round = s.round) (target : BindTx) (d : Half) :
    SessionMoved s (bindFailure target d u) := by
  unfold bindFailure
  by_cases hb : u.config.bindMaxRestarts ≠ 0 ∧ u.config.bindMaxRestarts ≤ (satSucc u.restarts).toNat
  · exact ⟨u, Stopped.bindFailed.code, satSucc u.restarts, 0, true, u.rebindReq, hm, hr, by decide, by decide, if_pos hb⟩
  · exact ⟨u, target.code, satSucc u.restarts, d, u.bfail, u.rebindReq, hm, hr, by cases target <;> decide,
      by cases target <;> decide, if_neg hb⟩

theorem sessionMoved_tickBindTx (k : BindTx) (s : State) : SessionMoved s (tickBindTx k s) := by
  refine sessionMoved_goto (((moved_buildBind (level k) s).trans (moved_strobe _ ?_)).trans
    (moved_writePacket Param.pktLen _ _ (by decide))) ?_ _ _ (by cases k <;> decide)
  · simp [Config.strobes]
  · rw [round_writePacket]; rfl

theorem sessionMoved_tickTxDone (k : BindTx) (s : State) : SessionMoved s (tickTxDone k s) := by
  refine sessionMoved_goto ((moved_pollCompletion s.config.txdonePolls s).toReceive.trans (moved_strobe _ ?_)) ?_ _ _
    (by cases k <;> decide)
  · simp [Config.strobes]
  · rw [strobe_round, setPins_round, round_pollCompletion]

theorem moved_poll (s : State) : Moved s (xfer (pollFrame s.config) s) :=
  moved_regRead_own s.config.modeReg (by simp [Config.ownAddresses])

theorem sessionMoved_tickListen (k : BindListen) (s : State) : SessionMoved s (tickListen k s) := by
  have h1 := moved_poll s
  by_cases hb : busy s.config (misoAt s 1) = true
  · have e : tickListen k s = bindFailure .bind1 s.config.dlyListenFail (xfer (pollFrame s.config) s) := if_pos hb
    rw [e]
    exact sessionMoved_bindFailure h1 rfl _ _
  · have h2 := h1.trans (moved_readPacket Param.pktLen _)
    have h3 : Moved s (programId k (readPacket Param.pktLen (xfer (pollFrame s.config) s))) := by
      unfold programId; split
      · exact h2.trans (moved_setId _)
      · exact h2
    have e : tickListen k s = goto (k.code + 1) (programId k (readPacket Param.pktLen (xfer (pollFrame s.config) s))).config.dlyListenOk
        (programId k (readPacket Param.pktLen (xfer (pollFrame s.config) s))) := if_neg hb
    rw [e]
    refine sessionMoved_goto h3 ?_ _ _ (by cases k <;> decide)
    unfold programId; split <;> simp

theorem sessionMoved_tickBind8 (s : State) : SessionMoved s (tickBind8 s) := by
  have h1 := moved_poll s
  by_cases hb : busy s.config (misoAt s 1) = true
  · have e : tickBind8 s = bindFailure .bind7 s.config.dlyB8Fail (xfer (pollFrame s.config) s) := if_pos hb
    rw [e]
    exact sessionMoved_bindFailure h1 rfl _ _
  · have h2 := h1.trans (moved_readPacket Param.pktLen _)
    generalize hv : readPacket Param.pktLen (xfer (pollFrame s.config) s) = v at h2
    have hr : v.round = s.round := by rw [← hv, round_readPacket]; rfl
    have e : tickBind8 s = if v.rxbuf[1] = Param.completionCode then { finalize v with delayUs := (finalize v).config.dlyB8Ok }
        else goto BindTx.bind7.code v.config.dlyB8Fail v := by rw [← hv]; exact if_neg hb
    rw [e]
    split
    · have h3 := h2.trans (moved_regWrite_own v.config.codeReg v.config.codeFecValue (by simp [Config.ownAddresses]))
      exact ⟨_, DataStep.data1.code, 0, _, _, _, h3.trans (moved_strobe _ (by simp [Config.strobes])), hr, by decide,
        by decide, rfl⟩
    · exact sessionMoved_goto h2 hr _ _ (by decide)

theorem sessionMoved_tickData (k : DataStep) (s : State) : SessionMoved s (tickData k s) := by
  unfold tickData
  split
  · exact ⟨s, BindTx.bind1.code, 0, 0, s.bfail, false, Moved.refl s, rfl, by decide, by decide, rfl⟩
  · split
    · refine sessionMoved_goto ((moved_buildData s).trans (moved_writePacket Param.pktLen _ _ (by decide))) ?_ _ _ (by decide)
      rw [round_writePacket]; rfl
    · have h1 : Moved s (applyPower k s) := by
        unfold applyPower; split
        · exact moved_regWrite_own _ _ (by simp [Config.ownAddresses])
        · exact Moved.refl s
      have hr : (applyPower k s).round = s.round := by unfold applyPower; split <;> rfl
      refine sessionMoved_goto ((h1.trans (moved_buildData _)).trans (moved_writePacket Param.pktLen _ _ (by decide))) ?_ _ _
        (by cases k <;> decide)
      rw [round_writePacket]; exact hr

/-- Everything an arm other than the refused one can do (R246). -/
theorem sessionMoved_runArm (arm : TickArm) (s : State) (h : ∀ k, arm ≠ .stopped k) : SessionMoved s (runArm arm s) := by
  cases arm with
  | stopped k => exact absurd rfl (h k)
  | bindTx k => exact sessionMoved_tickBindTx k s
  | txDone k => exact sessionMoved_tickTxDone k s
  | listen k => exact sessionMoved_tickListen k s
  | bind8 => exact sessionMoved_tickBind8 s
  | data k => exact sessionMoved_tickData k s

end Sys2Proof.Machine
end

