-- ==== Sys2Proof/Laws/BindSeq.lean ====
section
/-! SUPPORT. What the sequential bind can do: its exchanges counted in `ROUND`, its outputs, its two ends. -/

namespace Sys2Proof.Machine

/-- The outputs select receive (R42). -/
def Receiving (s : State) : Prop := s.txen = false ∧ s.rxen = true

theorem Moved.receiving {s t : State} (h : Moved s t) (hs : Receiving s) : Receiving t := h.pins hs.1 hs.2

theorem receiving_writePacket (n : Nat) (ch : Byte) (s : State) : Receiving (writePacket n ch s) := ⟨rfl, rfl⟩

/-- An attempt leaves the outputs in receive, wherever they were. -/
theorem receiving_attempt (s : State) : Receiving (attempt s).2 :=
  (moved_pollBusy _ _).receiving (receiving_writePacket Param.pktLen s.channel s)

/-- So does an exchange of at least one attempt. -/
theorem receiving_exchange (k : Nat) (s : State) : Receiving (exchange (k + 1) s).2 := by
  have h := receiving_attempt s
  rcases ha : attempt s with ⟨_ | _, u⟩ <;> rw [ha] at h
  · rw [exchange_clear ha]
    exact ((moved_readPacket _ _).trans (moved_countRound _)).receiving h
  · rw [exchange_timeout ha]
    exact (moved_exchange k _).receiving h

theorem round_exchangeLevel (lvl : Byte) (s : State) :
    (exchangeLevel lvl s).2.round = if (exchangeLevel lvl s).1 = .ok then s.round + 1 else s.round :=
  round_exchange s.config.seqMaxAttempts (buildBind lvl s)

/-- The level-9 rounds count one for each that ends well; all end well if the sequence does (R266 step 5). -/
theorem round_exchangeRounds (k i : Nat) (s : State) :
    ∃ j, (exchangeRounds k i s).2.round = s.round + BitVec.ofNat 8 j ∧
      ((exchangeRounds k i s).1 = .ok ∧ j = k ∨ (exchangeRounds k i s).1 = .fail ∧ j < k) := by
  induction k generalizing i s with
  | zero => exact ⟨0, by simp [exchangeRounds], .inl ⟨rfl, rfl⟩⟩
  | succ k ih =>
    have hr := round_exchange s.config.seqMaxAttempts (buildRound i s)
    rcases he : exchange s.config.seqMaxAttempts (buildRound i s) with ⟨_ | _, u⟩ <;> rw [he] at hr
    · have e : exchangeRounds (k + 1) i s = exchangeRounds k (i + 1) u := by simp only [exchangeRounds, he]
      obtain ⟨j, h1, h2⟩ := ih (i + 1) u
      rw [e]
      refine ⟨j + 1, ?_, h2.imp (fun h => ⟨h.1, by omega⟩) (fun h => ⟨h.1, by omega⟩)⟩
      rw [h1, show u.round = s.round + 1 from hr, BitVec.add_assoc, BitVec.ofNat_add, BitVec.add_comm (BitVec.ofNat 8 j)]
      rfl
    · have e : exchangeRounds (k + 1) i s = (.fail, u) := by simp only [exchangeRounds, he]
      rw [e]
      exact ⟨0, by simpa [buildRound, buildBind, putTx] using hr, .inr ⟨rfl, by omega⟩⟩

/-- Everything `Finalize` can do (R260). -/
theorem finalize_spec (u : State) :
    ∃ v, Moved u v ∧ v.round = u.round ∧ v.lastStrobe = u.config.strobeStandby ∧
      finalize u = setSession 0x08 0x00 v.delayUs v.bfail v.rebindReq v :=
  ⟨strobe (regWrite u.config.codeReg u.config.codeFecValue u).config.strobeStandby
      (regWrite u.config.codeReg u.config.codeFecValue u),
    (moved_regWrite_own u.config.codeReg u.config.codeFecValue (by simp [Config.ownAddresses])).trans
      (moved_strobe _ (by simp [Config.strobes])), rfl, rfl, rfl⟩

/-- Everything `BIND_SEQ` can do (R266): after `n` exchanges that ended well it gave up, or all 13 did and it is bound. -/
theorem bindSeq_spec (s : State) :
    ∃ (u : State) (n : Nat), Moved (bindSeqStart s) u ∧ Receiving u ∧ u.round = BitVec.ofNat 8 n ∧
      (n < 13 ∧ bindSeq s = bindSeqFail u ∨
        n = 13 ∧ u.lastStrobe = s.config.strobeStandby ∧
          bindSeq s = setSession 0x08 0x00 u.delayUs u.bfail u.rebindReq u) := by
  have h1 := moved_exchangeLevel 1 (bindSeqStart s)
  have r1 := round_exchangeLevel 1 (bindSeqStart s)
  have p1 : Receiving (exchangeLevel 1 (bindSeqStart s)).2 := receiving_exchange _ _
  unfold bindSeq
  rcases e1 : exchangeLevel 1 (bindSeqStart s) with ⟨_ | _, a⟩ <;> rw [e1] at h1 r1 p1
  · have r1 : a.round = 1 := r1
    have h2 := h1.trans (moved_exchangeLevel 3 a)
    have r2 := round_exchangeLevel 3 a
    have p2 := (moved_exchangeLevel 3 a).receiving p1
    simp only []
    rcases e2 : exchangeLevel 3 a with ⟨_ | _, b⟩ <;> rw [e2] at h2 r2 p2
    · have r2 : b.round = 2 := by rw [show b.round = a.round + 1 from r2, r1]; rfl
      have m3 := (moved_setId (s := b) (replyId b)).trans (moved_exchangeLevel 1 (setId (replyId b) b))
      have h3 := h2.trans m3
      have r3 := round_exchangeLevel 1 (setId (replyId b) b)
      have p3 := m3.receiving p2
      simp only []
      rcases e3 : exchangeLevel 1 (setId (replyId b) b) with ⟨_ | _, c⟩ <;> rw [e3] at h3 r3 p3
      · have r3 : c.round = 3 := by rw [show c.round = b.round + 1 from r3, r2]; rfl
        have h4 := h3.trans (moved_exchangeRounds Param.seqRounds 0 c)
        have p4 := (moved_exchangeRounds Param.seqRounds 0 c).receiving p3
        obtain ⟨j, r4, hj⟩ := round_exchangeRounds Param.seqRounds 0 c
        simp only []
        rcases e4 : exchangeRounds Param.seqRounds 0 c with ⟨_ | _, d⟩ <;> rw [e4] at h4 r4 p4 hj
        · have : j = Param.seqRounds := by simpa using hj
          subst this
          obtain ⟨v, hv, rv, lv, ev⟩ := finalize_spec d
          have hc : d.config = s.config := h4.config
          exact ⟨v, 13, h4.trans hv, hv.receiving p4, by rw [rv, show d.round = _ from r4, r3]; rfl,
            .inr ⟨rfl, by rw [lv, hc], ev⟩⟩
        · have : j < 10 := by simpa [Param.seqRounds] using hj
          exact ⟨d, 3 + j, h4, p4, by rw [show d.round = _ from r4, r3, BitVec.ofNat_add]; rfl, .inl ⟨by omega, rfl⟩⟩
      · exact ⟨c, 2, h3, p3, by rw [show c.round = b.round from r3, r2]; rfl, .inl ⟨by omega, rfl⟩⟩
    · exact ⟨b, 1, h2, p2, by rw [show b.round = a.round from r2, r1]; rfl, .inl ⟨by omega, rfl⟩⟩
  · exact ⟨a, 0, h1, p1, r1, .inl ⟨by omega, rfl⟩⟩

end Sys2Proof.Machine
end

