-- ==== Sys2Proof/Laws/Packets.lean ====
section
/-! SUPPORT. The packets as byte lists: the checksum byte, the bytes before it, and what a build leaves. -/

namespace Sys2Proof.Machine

/-- A sealed packet is its first fifteen bytes and their checksum (R126, R191). -/
theorem withChecksum_toList (p : Packet) : (withChecksum p).toList = withCks (p.toList.take 15) := by
  apply List.ext_getElem
  · simp [withChecksum, withCks]
  · intro i h1 h2
    simp only [withChecksum, withCks, checksum, Vector.getElem_toList, Vector.getElem_set, List.getElem_append,
      List.length_take, Vector.length_toList, List.getElem_take, List.getElem_singleton]
    simp only [Vector.length_toList] at h1
    by_cases h : i = 15
    · subst h; simp
    · rw [if_neg (Ne.symm h), dif_pos (by omega)]

@[simp] theorem length_withCks (l : List Byte) : (withCks l).length = l.length + 1 := by simp [withCks]

/-- Bytes and their checksum sum to 0 modulo 256 (R192). -/
theorem withCks_sum (l : List Byte) : ((withCks l).map BitVec.toNat).sum % 256 = 0 := by
  simp [withCks]; omega

/-- The bytes of a bind packet before its checksum (R127). -/
theorem bindPacket_take (c : Config) (lvl ch : Byte) (session : Word) :
    (bindPacket c lvl ch session).toList.take 15 = bindBytes c lvl ch session := rfl

/-- The bytes of a flight-control packet before its checksum (R128). -/
theorem dataPacket_take (s : State) :
    (dataPacket s.config s.throttle s.rudder s.elevator s.aileron s.flags).toList.take 15 = dataBytes s := by
  apply List.ext_getElem
  · simp [dataBytes]
  · intro i h1 h2
    simp only [dataBytes, List.length_map, List.length_range] at h2
    simp only [dataPacket, Param.dataHeader, dataBytes, List.getElem_take, List.getElem_map, List.getElem_range,
      Vector.getElem_toList, Vector.getElem_setIfInBounds (show i < 16 by omega)]
    interval_cases i <;> simp [eq_comm]

end Sys2Proof.Machine
end

