-- ==== Sys2Proof/Laws/Exchange.lean ====
section
/-! SUPPORT. What an exchange of the sequential bind can do, and what stands in `TXBUF` before each. The relations of
Safety.lean leave no choice: each has one state after. -/

namespace Sys2Proof.Machine

/-! ## An exchange -/

/-- Everything an attempt can do (R264). -/
theorem attempt_spec (s : State) :
    ∃ late, Attempted late s (attempt s).2 ∧ (attempt s).1 = if late then .timeout else .clear := by
  have hw := writePacket_wrote Param.pktLen s.channel s (by decide)
  have hc := (moved_writePacket Param.pktLen s.channel s (by decide)).config
  obtain ⟨p, late, hp, he⟩ := pollBusy_spec s.config.seqListenPolls
    (strobe s.config.strobeRx (writePacket Param.pktLen s.channel s))
  refine ⟨late, ⟨writePacket Param.pktLen s.channel s, p, hw, ?_, ?_⟩, by rw [attempt, he]⟩
  · simpa only [strobe_config, hc, misoAt_strobe] using hp
  · rw [attempt, he, sendAll_strobe, strobe_config, hc]

/-- Everything an exchange of at most `k` attempts can do (R264). -/
theorem exchange_spec (k : Nat) (s : State) :
    (∃ (n : Nat) (u v w : State), n < k ∧ Unanswered n s u ∧ Attempted false u v ∧ ReadBack 16 v w ∧
      exchange k s = (.ok, { w with round := w.round + 1 })) ∨
    ∃ t, Unanswered k s t ∧ exchange k s = (.fail, t) := by
  induction k generalizing s with
  | zero => exact .inr ⟨s, rfl, rfl⟩
  | succ k ih =>
    obtain ⟨late, ha, hr⟩ := attempt_spec s
    rcases he : attempt s with ⟨r, u⟩
    rw [he] at ha hr
    cases late
    · obtain rfl : r = .clear := hr
      exact .inl ⟨0, s, u, _, by omega, rfl, ha, readPacket_readBack 16 u, exchange_clear he⟩
    · obtain rfl : r = .timeout := hr
      rw [exchange_timeout he]
      rcases ih (strobe s.config.strobeStandby u) with ⟨n, a, b, w, hn, h⟩ | ⟨t, ht, e⟩
      · exact .inl ⟨n + 1, a, b, w, by omega, ⟨u, ha, h.1⟩, h.2⟩
      · exact .inr ⟨t, ⟨u, ha, ht⟩, e⟩

/-! ## The packet of each exchange -/

/-- An exchange of a plain bind packet (R266 steps 1 and 2). -/
theorem readied_buildBind (n : Nat) (lvl : Byte) (s : State) (hn : n ≠ 2)
    (h : seqPacket s n = withCks (bindBytes s.config lvl s.channel s.sessionId)) : Readied n s (buildBind lvl s) := by
  refine ⟨withChecksum (bindPacket s.config lvl s.channel s.sessionId), ?_, ?_⟩
  · rw [withChecksum_toList, h]; rfl
  · rw [if_neg hn]; rfl

/-- The vehicle ID programmed, then the packet of the confirmation (R266 steps 3 and 4). -/
theorem readied_setId (s : State) : Readied 2 s (buildBind 1 (setId (replyId s) s)) := by
  have hid : replyId s = s.rxbuf[2] ++ s.rxbuf[3] ++ s.rxbuf[4] ++ s.rxbuf[5] := rfl
  refine ⟨withChecksum (bindPacket s.config 1 s.channel s.sessionId), ?_, ?_⟩
  · rw [withChecksum_toList]; rfl
  · rw [if_pos rfl, ← hid]
    simp only [replyId]
    apply State.ext <;> simp [setId, be32_fromBe32, buildBind, putTx, Param.idAddr]

/-- The packet of a level-9 round (R266 step 5). -/
theorem readied_buildRound (i : Nat) (s : State) : Readied (i + 3) s (buildRound i s) := by
  refine ⟨withChecksum ((withChecksum (bindPacket s.config 9 s.channel s.sessionId)).setIfInBounds
    s.config.seqByteIndex (BitVec.ofNat 8 i)), ?_, ?_⟩
  · rw [withChecksum_toList, Vector.toList_setIfInBounds, List.take_set, withChecksum_toList]; rfl
  · rw [if_neg (by omega)]; rfl

/-! ## One state after -/

theorem Polled.unique {c : Config} {m : Nat → Byte} {k p q : Nat} {late late' : Bool} (h : Polled c m k p late)
    (h' : Polled c m k q late') : late = late' ∧ p = q := by
  have key : ∀ {p q}, Polled c m k p true → Polled c m k q false → False := fun {p q} h h' => by
    have := h.2 (q - 1) (by have := h'.1; have := h'.2.1; omega)
    rw [h'.2.2.2] at this; cases this
  cases late <;> cases late'
  · refine ⟨rfl, ?_⟩
    obtain ⟨a1, a2, a3, a4⟩ := h
    obtain ⟨b1, b2, b3, b4⟩ := h'
    rcases Nat.lt_trichotomy p q with hl | rfl | hl
    · have := b3 (p - 1) (by omega); rw [a4] at this; cases this
    · rfl
    · have := a3 (q - 1) (by omega); rw [b4] at this; cases this
  · exact (key h' h).elim
  · exact (key h h').elim
  · exact ⟨rfl, h.1.trans h'.1.symm⟩

theorem Wrote.unique {n : Nat} {ch : Byte} {s t u : State} (h : Wrote n ch s t) (h' : Wrote n ch s u) : t = u := by
  obtain ⟨p, late, a, rfl⟩ := h
  obtain ⟨q, late', b, rfl⟩ := h'
  have : late = late' ∧ p = q := by
    split at a
    · rw [if_pos (by assumption)] at b; exact ⟨a.2.trans b.2.symm, a.1.trans b.1.symm⟩
    · rw [if_neg (by assumption)] at b; exact a.unique b
  obtain ⟨rfl, rfl⟩ := this
  rfl

theorem Attempted.unique {late late' : Bool} {s t u : State} (h : Attempted late s t) (h' : Attempted late' s u) :
    late = late' ∧ t = u := by
  obtain ⟨w, p, a, b, rfl⟩ := h
  obtain ⟨w', q, a', b', rfl⟩ := h'
  obtain rfl := a.unique a'
  obtain ⟨rfl, rfl⟩ := b.unique b'
  exact ⟨rfl, rfl⟩

theorem Readied.unique {n : Nat} {s t u : State} (h : Readied n s t) (h' : Readied n s u) : t = u := by
  obtain ⟨p, a, rfl⟩ := h
  obtain ⟨q, b, rfl⟩ := h'
  rw [Vector.toList_inj.1 (a.trans b.symm)]

theorem attempt_of_attempted {late : Bool} {s t : State} (h : Attempted late s t) :
    attempt s = (if late then .timeout else .clear, t) := by
  obtain ⟨l', a, b⟩ := attempt_spec s
  obtain ⟨rfl, rfl⟩ := h.unique a
  exact Prod.ext b rfl

/-- Unanswered attempts are the first of an exchange (R264). -/
theorem exchange_of_unanswered {n : Nat} (k : Nat) {s t : State} (h : Unanswered n s t) :
    exchange (n + k) s = exchange k t := by
  induction n generalizing s with
  | zero => cases h; simp
  | succ n ih =>
    obtain ⟨u, a, b⟩ := h
    rw [show n + 1 + k = (n + k) + 1 from by omega, exchange_timeout (attempt_of_attempted a)]
    exact ih b

theorem exchange_of_answered {s t : State} (h : Answered s t) : exchange s.config.seqMaxAttempts s = (.ok, t) := by
  obtain ⟨n, u, v, w, hn, a, b, c, rfl⟩ := h
  obtain ⟨k, hk⟩ : ∃ k, s.config.seqMaxAttempts = n + (k + 1) := ⟨s.config.seqMaxAttempts - n - 1, by omega⟩
  rw [hk, exchange_of_unanswered _ a, exchange_clear (attempt_of_attempted b)]
  have : w = readPacket 16 v := Eq.trans c (readPacket_readBack 16 v).symm
  rw [this]; rfl

end Sys2Proof.Machine
end

