-- ==== Sys2Proof/Laws/Scan.lean ====
section
/-! SUPPORT. What a scan does: the frames of a channel, the sums of its samples, the first channels of a scan. -/

namespace Sys2Proof.Machine

/-- Samples are frames, and their values are added up (R222). -/
theorem sampleRssi_spec (k sum : Nat) (s : State) :
    sampleRssi k sum s =
      (sum + ((List.range k).map fun j => (misoAt s (2 * j + 1)).toNat).sum,
        sendAll (List.replicate k (readFrame s.config s.config.rssiReg)) s) := by
  induction k generalizing sum s with
  | zero => rfl
  | succ k ih =>
    have h : sampleRssi (k + 1) sum s =
        sampleRssi k (sum + (misoAt s 1).toNat) (xfer (readFrame s.config s.config.rssiReg) s) := rfl
    rw [h, ih, List.range_succ_eq_map]
    have hm : ∀ j, misoAt (xfer (readFrame s.config s.config.rssiReg) s) (2 * j + 1) = misoAt s (2 * (j + 1) + 1) := fun j => by
      rw [misoAt_xfer]; congr 1; simp [readFrame]; omega
    simp only [hm, xfer_config, List.replicate_succ, sendAll_cons, List.map_cons, List.map_map, List.sum_cons]
    refine Prod.ext ?_ rfl
    simp only [Nat.add_assoc]; rfl

/-- The frames of one channel of a scan (R222). -/
def channelFrames (c : Config) (i : Fin 12) : List (List Byte) :=
  [c.channelReg, c.channelTable[i]] :: [c.strobePll] :: [c.strobeRx] ::
    List.replicate c.rssiSamples (readFrame c c.rssiReg)

/-- The two registers a scan of channels writes. -/
def withSums (l : Byte) (r : Vector Half 12) (t : State) : State := { t with lastStrobe := l, rssiSum := r }

@[simp] theorem withSums_config (l : Byte) (r : Vector Half 12) (t : State) : (withSums l r t).config = t.config := rfl
@[simp] theorem withSums_rssiSum (l : Byte) (r : Vector Half 12) (t : State) : (withSums l r t).rssiSum = r := rfl
@[simp] theorem withSums_withSums (l l' : Byte) (r r' : Vector Half 12) (t : State) :
    withSums l r (withSums l' r' t) = withSums l r t := rfl
@[simp] theorem misoAt_withSums (l : Byte) (r : Vector Half 12) (t : State) (j : Nat) :
    misoAt (withSums l r t) j = misoAt t j := rfl
theorem sendAll_withSums (fs : List (List Byte)) (l : Byte) (r : Vector Half 12) (t : State) :
    sendAll fs (withSums l r t) = withSums l r (sendAll fs t) := sendAll_comm (withSums l r) (fun _ _ => rfl) fs t

/-- Everything the scan of one channel can do (R222). -/
theorem scanChannel_spec (s : State) (i : Fin 12) :
    scanChannel s i = withSums s.config.strobeRx
      (s.rssiSum.set i (BitVec.ofNat 16
        ((List.range s.config.rssiSamples).map fun k => (misoAt s (4 + 2 * k + 1)).toNat).sum))
      (sendAll (channelFrames s.config i) s) := by
  have : ∀ k, 2 + (1 + (1 + (2 * k + 1))) = 4 + 2 * k + 1 := fun k => by omega
  simp only [scanChannel, sampleRssi_spec, putRssi, misoAt_strobe, misoAt_regWrite, Nat.zero_add, this, strobe_config,
    regWrite_config]
  apply State.ext <;>
    simp only [sendAll_strobe, channelFrames, withSums]
  all_goals simp
  all_goals rw [regWrite, or_writeFlag]

theorem channelFrames_length (c : Config) (i : Fin 12) :
    ((channelFrames c i).map List.length).sum = 4 + 2 * c.rssiSamples := by
  simp [channelFrames, readFrame]; omega

theorem length_flatMap_channelFrames (c : Config) (l : List (Fin 12)) :
    ((l.flatMap (channelFrames c)).map List.length).sum = l.length * (4 + 2 * c.rssiSamples) := by
  induction l with
  | nil => simp
  | cons i l ih =>
    rw [List.flatMap_cons, List.map_append, List.sum_append, ih, channelFrames_length, List.length_cons]
    ring

/-- The sum of one channel's samples in a scan that starts at `s` (R222, R224). -/
def channelSum (s : State) (i : Nat) : Nat :=
  ((List.range s.config.rssiSamples).map fun k =>
    (misoAt s (i * (4 + 2 * s.config.rssiSamples) + 4 + 2 * k + 1)).toNat).sum

theorem channelSum_le (s : State) (i : Nat) : channelSum s i ≤ 255 * s.config.rssiSamples := by
  have h := List.sum_le_card_nsmul ((List.range s.config.rssiSamples).map fun k =>
    (misoAt s (i * (4 + 2 * s.config.rssiSamples) + 4 + 2 * k + 1)).toNat) 255 (by
      intro x hx
      obtain ⟨k, -, rfl⟩ := List.mem_map.1 hx
      omega)
  simpa [channelSum, Nat.mul_comm] using h

theorem channelIndices_eq : channelIndices = List.finRange 12 := rfl

/-- Everything the scan of the first `n` channels can do (R224). -/
theorem scanChannels_spec (n : Nat) (hn : n ≤ 12) (s : State) :
    ((List.finRange 12).take n).foldl scanChannel s =
      withSums (if n = 0 then s.lastStrobe else s.config.strobeRx)
        (Vector.ofFn fun j : Fin 12 => if j.val < n then BitVec.ofNat 16 (channelSum s j.val) else s.rssiSum[j])
        (sendAll (((List.finRange 12).take n).flatMap (channelFrames s.config)) s) := by
  induction n with
  | zero => apply State.ext <;> simp [withSums]
  | succ n ih =>
    have hlen : ((((List.finRange 12).take n).flatMap (channelFrames s.config)).map List.length).sum =
        n * (4 + 2 * s.config.rssiSamples) := by
      rw [length_flatMap_channelFrames, List.length_take, List.length_finRange, Nat.min_eq_left (by omega)]
    have hget : (List.finRange 12)[n]?.toList = [⟨n, by omega⟩] := by
      rw [List.getElem?_eq_getElem (by simpa using hn)]; simp
    rw [List.take_add_one, List.foldl_append, ih (by omega), hget, List.foldl_cons, List.foldl_nil, scanChannel_spec,
      List.flatMap_append, sendAll_append]
    simp only [misoAt_withSums, misoAt_sendAll, hlen, withSums_config, sendAll_config, sendAll_withSums, withSums_withSums,
      withSums_rssiSum, List.flatMap_cons, List.flatMap_nil, List.append_nil, ← Nat.add_assoc]
    rw [if_neg (Nat.succ_ne_zero n)]
    congr 1
    apply Vector.ext
    intro j hj
    simp only [Vector.getElem_set, Vector.getElem_ofFn]
    by_cases h : n = j
    · subst h; simp [channelSum]
    · rw [if_neg h]; simp only [show (j < n + 1 ↔ j < n) by omega]

end Sys2Proof.Machine
end

