-- ==== Sys2Proof/Laws/Exec.lean ====
section
/-! SUPPORT. Everything an instruction can do, in one lemma: a step of an invariant proof is a case analysis on it. -/

namespace Sys2Proof.Machine

/-- The scan's registers: `RSSI_SUM`, `BEST_IDX`, `CHANNEL` (R224). -/
def setScan (sums : Vector Half 12) (best ch : Byte) (u : State) : State :=
  { u with rssiSum := sums, bestIdx := best, channel := ch }

theorem channelFrames_legal (c : Config) (hw : c.wf = true) (i : Fin 12) :
    ∀ m ∈ channelFrames c i, ∃ i, decodeFrame c m = .ok i := by
  intro m hm
  simp only [channelFrames, List.mem_cons, List.mem_replicate] at hm
  rcases hm with rfl | rfl | rfl | ⟨-, rfl⟩
  · exact decodeFrame_write _ _ _ (own_le hw (by simp [Config.ownAddresses]))
  · exact decodeFrame_strobe _ hw _ (by simp [Config.strobes])
  · exact decodeFrame_strobe _ hw _ (by simp [Config.strobes])
  · exact decodeFrame_read _ _ (own_le hw (by simp [Config.ownAddresses]))

/-- Everything `SCAN` can do (R222, R224). -/
theorem execScan_spec (s : State) :
    ∃ (u : State) (sums : Vector Half 12), Moved s u ∧ u.round = s.round ∧
      (∀ i : Fin 12, sums[i] = BitVec.ofNat 16 (channelSum s i.val)) ∧
      execScan s = .next (setScan sums (BitVec.ofNat 8 (bestChannel sums).val) s.config.channelTable[bestChannel sums] u) := by
  have e := scanChannels_spec 12 le_rfl s
  rw [if_neg (by decide), show (List.finRange 12).take 12 = channelIndices from rfl] at e
  have h : Moved s (sendAll (channelIndices.flatMap (channelFrames s.config)) s) := by
    refine moved_sendAll _ s fun hw m hm => ?_
    obtain ⟨i, -, hi⟩ := List.mem_flatMap.1 hm
    exact channelFrames_legal _ hw i m hi
  refine ⟨{ sendAll (channelIndices.flatMap (channelFrames s.config)) s with lastStrobe := s.config.strobeRx },
    Vector.ofFn fun j : Fin 12 => if j.val < 12 then BitVec.ofNat 16 (channelSum s j.val) else s.rssiSum[j], ?_,
    sendAll_round _ _, fun i => by simp, ?_⟩
  · constructor
    case lastStrobe => exact .inr (by simp [Config.strobes])
    case trace => exact h.trace
    case pins => exact h.pins
    case config => exact h.config
    case cmd => exact h.cmd
    case arg0 => exact h.arg0
    case arg1 => exact h.arg1
    case rdata => exact h.rdata
    case err => exact h.err
    case bfail => exact h.bfail
    case errcode => exact h.errcode
    case state => exact h.state
    case channel => exact h.channel
    case rebindReq => exact h.rebindReq
    case restarts => exact h.restarts
    case delayUs => exact h.delayUs
    case sessionId => exact h.sessionId
    case throttle => exact h.throttle
    case rudder => exact h.rudder
    case elevator => exact h.elevator
    case aileron => exact h.aileron
    case flags => exact h.flags
    case txpower => exact h.txpower
    case rssiSum => exact h.rssiSum
    case bestIdx => exact h.bestIdx
    case hostQueue => exact h.hostQueue
    case hostReads => exact h.hostReads
  · rw [execScan, e]
    simp only [selectChannel, withSums, sendAll_config]
    rfl

/-- What an instruction that answers a next state did. -/
inductive Did (i : Instr) (s t : State) : Prop where
  /-- It raised one command error (R311). -/
  | error (e : ErrorCode) (h : t = cmdError e s)
  /-- It sent frames, built a packet or read a reply; nothing else. -/
  | moved (h : Moved s t) (hr : t.round = s.round)
  /-- It read a register into `RDATA` (R160). -/
  | read (hi : i = .regRead) (u : State) (v : Byte) (h : Moved s u) (hr : u.round = s.round) (ht : t = { u with rdata := v })
  /-- It ran an arm of `TICK`, or started a bind (R245, R246). -/
  | session (h : SessionMoved s t)
      (hi : i ∉ [Instr.nop, .regRead, .regWrite, .strobe, .setId, .fifoWrite, .fifoRead, .scan, .buildBind, .buildData])
  /-- It scanned the channels (R224). -/
  | scanned (hi : i = .scan) (u : State) (sums : Vector Half 12) (h : Moved s u) (hr : u.round = s.round)
      (hs : ∀ j : Fin 12, sums[j] = BitVec.ofNat 16 (channelSum s j.val))
      (ht : t = setScan sums (BitVec.ofNat 8 (bestChannel sums).val) s.config.channelTable[bestChannel sums] u)
  /-- It gave up the session (R244). -/
  | aborted (hi : i = .abort) (ht : t = { s with state := 0x0F, rebindReq := false, delayUs := 0 })
  /-- It ran the sequential bind (R266). -/
  | bound (hi : i = .bindSeq) (u : State) (n : Nat) (h : Moved (bindSeqStart s) u) (hp : Receiving u)
      (hr : u.round = BitVec.ofNat 8 n) (ht : n < 13 ∧ t = bindSeqFail u ∨
        n = 13 ∧ u.lastStrobe = s.config.strobeStandby ∧ t = setSession 0x08 0x00 u.delayUs u.bfail u.rebindReq u)

/-- Every instruction did one of these (R111, R246). -/
theorem exec_did {i : Instr} {s t : State} (h : exec i s = .next t) : Did i s t := by
  cases i with
  | nop => cases h; exact .moved (Moved.refl s) rfl
  | regRead =>
    simp only [exec, execRegRead] at h
    split at h <;> cases h
    · rename_i hv
      exact .read rfl _ (misoAt s 1) (moved_regRead (s := s) s.arg0 fun _ => of_decide_eq_true hv) rfl rfl
    · exact .error .badAddr rfl
  | regWrite =>
    simp only [exec, execRegWrite] at h
    split at h <;> cases h
    · rename_i hv
      exact .moved (moved_regWrite s.arg0 s.arg1 fun _ => of_decide_eq_true hv) rfl
    · exact .error .badAddr rfl
  | strobe =>
    simp only [exec, execStrobe] at h
    split at h <;> cases h
    · rename_i hv
      exact .moved (moved_strobe s.arg0 (of_decide_eq_true hv)) rfl
    · exact .error .badStrobe rfl
  | setId => cases h; exact .moved (moved_setId s.devId) rfl
  | fifoWrite =>
    simp only [exec, execFifoWrite] at h
    split at h <;> cases h
    · rename_i hv
      exact .moved (moved_writePacket _ _ s (of_decide_eq_true hv)) (round_writePacket _ _ s)
    · exact .error .badLen rfl
  | fifoRead =>
    simp only [exec, execFifoRead] at h
    split at h <;> cases h
    · exact .moved (moved_readPacket _ s) (round_readPacket _ s)
    · exact .error .badLen rfl
  | scan =>
    obtain ⟨u, sums, h1, h2, h3, h4⟩ := execScan_spec s
    rw [exec, h4] at h
    cases h
    exact .scanned rfl u sums h1 h2 h3 rfl
  | buildBind => cases h; exact .moved (moved_buildBind s.arg0 s) rfl
  | buildData => cases h; exact .moved (moved_buildData s) rfl
  | bindStart =>
    cases h
    exact .session ⟨s, BindTx.bind1.code, 0, 0, s.bfail, false, Moved.refl s, rfl, by decide, by decide, rfl⟩ (by decide)
  | tick =>
    simp only [exec, execTick] at h
    split at h
    · rename_i arm ha
      cases h
      by_cases hk : ∃ k, arm = .stopped k
      · obtain ⟨k, rfl⟩ := hk
        exact .error .badState rfl
      · exact .session (sessionMoved_runArm arm s fun k e => hk ⟨k, e⟩) (by decide)
    · cases h
  | bindSeq =>
    obtain ⟨u, n, h1, h2, h3, h4⟩ := bindSeq_spec s
    cases h
    exact .bound rfl u n h1 h2 h3 h4
  | abort => cases h; exact .aborted rfl rfl
  | illegalOpcode op => cases h; exact .error .illegalOpcode rfl
  | spiRead a =>
    simp only [exec, execSpiRead] at h
    split at h <;> cases h
    rename_i hv
    exact .moved (moved_regRead _ fun _ => of_decide_eq_true hv) rfl
  | spiWrite a v =>
    simp only [exec, execSpiWrite] at h
    split at h <;> cases h
    rename_i hv
    exact .moved (moved_regWrite _ v fun _ => of_decide_eq_true hv) rfl
  | spiBurst d =>
    simp only [exec, execSpiBurst] at h
    split at h <;> cases h
    rename_i hv
    exact .moved (moved_burst d hv) rfl
  | spiId id => cases h; exact .moved (moved_setId id) rfl
  | strobeSleep => cases h; exact .moved (moved_strobe s.config.strobeSleep (by simp [Config.strobes])) rfl
  | strobeIdle => cases h; exact .moved (moved_strobe s.config.strobeIdle (by simp [Config.strobes])) rfl
  | strobeStandby => cases h; exact .moved (moved_strobe s.config.strobeStandby (by simp [Config.strobes])) rfl
  | strobePll => cases h; exact .moved (moved_strobe s.config.strobePll (by simp [Config.strobes])) rfl
  | strobeRx => cases h; exact .moved (moved_strobe s.config.strobeRx (by simp [Config.strobes])) rfl
  | strobeTx => cases h; exact .moved (moved_strobe s.config.strobeTx (by simp [Config.strobes])) rfl
  | strobeRstWrptr => cases h; exact .moved (moved_strobe s.config.strobeRstWrptr (by simp [Config.strobes])) rfl
  | strobeRstRdptr => cases h; exact .moved (moved_strobe s.config.strobeRstRdptr (by simp [Config.strobes])) rfl
  | tickBindTx k => cases h; exact .session (sessionMoved_tickBindTx k s) (by simp)
  | tickTxDone k => cases h; exact .session (sessionMoved_tickTxDone k s) (by simp)
  | tickListen k => cases h; exact .session (sessionMoved_tickListen k s) (by simp)
  | tickBind8 => cases h; exact .session (sessionMoved_tickBind8 s) (by simp)
  | tickData k => cases h; exact .session (sessionMoved_tickData k s) (by simp)
  | tickBadState k => cases h; exact .error .badState rfl

end Sys2Proof.Machine
end

