-- ==== Sys2Proof/Laws/Host.lean ====
section
/-! SUPPORT. The host register map and the step: the address of each byte of the map, and what one step of each kind is. -/

namespace Sys2Proof.Machine

/-- The address of a byte of the map; the reserved bytes have many, so they are given one that is not asked for. -/
def hostAddr : HostByte → Byte
  | .cmd => 0x00
  | .arg0 => 0x01
  | .arg1 => 0x02
  | .rdata => 0x03
  | .status => 0x04
  | .errcode => 0x05
  | .state => 0x06
  | .channel => 0x07
  | .lastStrobe => 0x08
  | .pins => 0x09
  | .ctrl => 0x0A
  | .restarts => 0x0B
  | .round => 0x0C
  | .txcount => 0x0D
  | .delayHi => 0x0E
  | .delayLo => 0x0F
  | .sessionId i => BitVec.ofNat 8 (0x10 + i.val)
  | .devId i => BitVec.ofNat 8 (0x14 + i.val)
  | .throttle => 0x18
  | .rudder => 0x19
  | .elevator => 0x1A
  | .aileron => 0x1B
  | .flags => 0x1C
  | .txpower => 0x1D
  | .txbuf i => BitVec.ofNat 8 (0x20 + i.val)
  | .rxbuf i => BitVec.ofNat 8 (0x30 + i.val)
  | .rssiHi i => BitVec.ofNat 8 (0x40 + 2 * i.val)
  | .rssiLo i => BitVec.ofNat 8 (0x41 + 2 * i.val)
  | .bestIdx => 0x58
  | .reserved => 0xFF

set_option maxRecDepth 4000 in
/-- Two addresses of one register byte are one address. -/
theorem hostAddr_hostByte : ∀ a : Byte, hostByte a ≠ .reserved → hostAddr (hostByte a) = a := by decide

theorem hostByte_injective {a b : Byte} (ha : hostByte a ≠ .reserved) (h : hostByte a = hostByte b) : a = b := by
  rw [← hostAddr_hostByte a ha, h, hostAddr_hostByte b (h ▸ ha)]

set_option maxRecDepth 4000 in
theorem hostByte_eq_cmd : ∀ a : Byte, hostByte a = .cmd ↔ a = 0x00 := by decide

/-- A write of `CMD` is the meaning of the decoded opcode. -/
theorem step_command {s : State} {v : Byte} {q : List HostAccess} (hw : s.config.wf = true)
    (hq : s.hostQueue = .write 0x00 v :: q) : step s = exec (decodeCommand v) { s with hostQueue := q, cmd := v } := by
  simp [step, hw, fetchCommand, hq, hostByte, memWrite, HostByte.access, storeByte]

/-- Any other write is `MemWrite`. -/
theorem step_write {s : State} {a v : Byte} {q : List HostAccess} (hw : s.config.wf = true)
    (hq : s.hostQueue = .write a v :: q) (ha : a ≠ 0x00) : step s = .next (memWrite a v { s with hostQueue := q }) := by
  have hc : hostByte a ≠ .cmd := fun h => ha ((hostByte_eq_cmd a).1 h)
  simp [step, hw, fetchCommand, hq, hc, serveAccess]

/-- A read is `MemRead`. -/
theorem step_read {s : State} {a : Byte} {q : List HostAccess} (hw : s.config.wf = true)
    (hq : s.hostQueue = .read a :: q) : step s = .next (hostRead a { s with hostQueue := q }) := by
  simp [step, hw, fetchCommand, hq, serveAccess]

/-- Everything a step can be. -/
theorem step_cases {s : State} {P : Host.Outcome State Fault Refusal → Prop}
    (hbad : s.config.wf = false → P (.refused .badConfig))
    (hwait : s.config.wf = true → s.hostQueue = [] → P (.next s))
    (hread : ∀ a q, s.config.wf = true → s.hostQueue = .read a :: q → P (.next (hostRead a { s with hostQueue := q })))
    (hwrite : ∀ a v q, s.config.wf = true → s.hostQueue = .write a v :: q → a ≠ 0x00 →
      P (.next (memWrite a v { s with hostQueue := q })))
    (hcmd : ∀ v q, s.config.wf = true → s.hostQueue = .write 0x00 v :: q →
      P (exec (decodeCommand v) { s with hostQueue := q, cmd := v })) : P (step s) := by
  cases hw : s.config.wf with
  | false => simpa [step, hw] using hbad hw
  | true =>
    cases hq : s.hostQueue with
    | nil => simpa [step, hw, fetchCommand, hq, serveAccess] using hwait hw hq
    | cons h q =>
      cases h with
      | read a => rw [step_read hw hq]; exact hread a q hw hq
      | write a v =>
        by_cases ha : a = 0x00
        · subst ha; rw [step_command hw hq]; exact hcmd v q hw hq
        · rw [step_write hw hq ha]; exact hwrite a v q hw hq ha


/-- What a byte of the map reads after a host write of one. -/
theorem readByte_storeByte (v : Byte) (s : State) (x y : HostByte) (hx : x.access = .rw ∨ x.access = .cmd) :
    readByte (storeByte v s x) y = if y = x then v else readByte s y := by
  cases x <;> first | (rcases hx with hx | hx <;> cases hx; done) | skip
  all_goals cases y <;> first | rfl | skip
  · rename_i i j
    simp only [readByte, storeByte, byteOf_withByte, HostByte.sessionId.injEq]
  · rename_i i j
    simp only [readByte, storeByte, byteOf_withByte, HostByte.devId.injEq]
  · rename_i i j
    simp only [readByte, storeByte, HostByte.txbuf.injEq, Fin.getElem_fin, Vector.getElem_set, Fin.ext_iff, eq_comm]

end Sys2Proof.Machine
end

