-- ==== Sys2Proof/Laws/PerInstr.lean ====
section
/-! SUPPORT. Statements made one instruction at a time: how long an instruction's bytes are. -/

namespace Sys2Proof.Laws

/-- A command and an arm are one byte (30_encoding.md R110, R123); a frame has 1 to 17 bytes (R114, R117). -/
def EncodedLength.Statement (i : Instr) : Prop :=
  ∀ c : Config, i.wf = true →
    (i.space ≠ .frame → (encode c i).length = 1) ∧ 1 ≤ (encode c i).length ∧ (encode c i).length ≤ 17

theorem EncodedLength.nop : EncodedLength.Statement (.nop) := fun _ _ => by simp [encode, Instr.space]

theorem EncodedLength.regRead : EncodedLength.Statement (.regRead) := fun _ _ => by simp [encode, Instr.space]

theorem EncodedLength.regWrite : EncodedLength.Statement (.regWrite) := fun _ _ => by simp [encode, Instr.space]

theorem EncodedLength.strobe : EncodedLength.Statement (.strobe) := fun _ _ => by simp [encode, Instr.space]

theorem EncodedLength.setId : EncodedLength.Statement (.setId) := fun _ _ => by simp [encode, Instr.space]

theorem EncodedLength.fifoWrite : EncodedLength.Statement (.fifoWrite) := fun _ _ => by simp [encode, Instr.space]

theorem EncodedLength.fifoRead : EncodedLength.Statement (.fifoRead) := fun _ _ => by simp [encode, Instr.space]

theorem EncodedLength.scan : EncodedLength.Statement (.scan) := fun _ _ => by simp [encode, Instr.space]

theorem EncodedLength.buildBind : EncodedLength.Statement (.buildBind) := fun _ _ => by simp [encode, Instr.space]

theorem EncodedLength.buildData : EncodedLength.Statement (.buildData) := fun _ _ => by simp [encode, Instr.space]

theorem EncodedLength.bindStart : EncodedLength.Statement (.bindStart) := fun _ _ => by simp [encode, Instr.space]

theorem EncodedLength.tick : EncodedLength.Statement (.tick) := fun _ _ => by simp [encode, Instr.space]

theorem EncodedLength.bindSeq : EncodedLength.Statement (.bindSeq) := fun _ _ => by simp [encode, Instr.space]

theorem EncodedLength.abort : EncodedLength.Statement (.abort) := fun _ _ => by simp [encode, Instr.space]

theorem EncodedLength.illegalOpcode (op : Byte) : EncodedLength.Statement (.illegalOpcode op) := fun _ _ => by simp [encode, Instr.space]

theorem EncodedLength.spiRead (a : BitVec 6) : EncodedLength.Statement (.spiRead a) := fun _ _ => by simp [encode, Instr.space]

theorem EncodedLength.spiWrite (a : BitVec 6) (v : Byte) : EncodedLength.Statement (.spiWrite a v) := fun _ _ => by simp [encode, Instr.space]

theorem EncodedLength.spiBurst (data : List Byte) : EncodedLength.Statement (.spiBurst data) := by
  intro c h
  have h := of_decide_eq_true (show decide (1 ≤ data.length ∧ data.length ≤ 16) = true from h)
  simp only [encode, Instr.space, List.length_cons]
  exact ⟨fun hn => absurd rfl hn, by omega, by omega⟩

theorem EncodedLength.spiId (id : Word) : EncodedLength.Statement (.spiId id) := fun _ _ => by simp [encode, be32, Instr.space]

theorem EncodedLength.strobeSleep : EncodedLength.Statement (.strobeSleep) := fun _ _ => by simp [encode, Instr.space]

theorem EncodedLength.strobeIdle : EncodedLength.Statement (.strobeIdle) := fun _ _ => by simp [encode, Instr.space]

theorem EncodedLength.strobeStandby : EncodedLength.Statement (.strobeStandby) := fun _ _ => by simp [encode, Instr.space]

theorem EncodedLength.strobePll : EncodedLength.Statement (.strobePll) := fun _ _ => by simp [encode, Instr.space]

theorem EncodedLength.strobeRx : EncodedLength.Statement (.strobeRx) := fun _ _ => by simp [encode, Instr.space]

theorem EncodedLength.strobeTx : EncodedLength.Statement (.strobeTx) := fun _ _ => by simp [encode, Instr.space]

theorem EncodedLength.strobeRstWrptr : EncodedLength.Statement (.strobeRstWrptr) := fun _ _ => by simp [encode, Instr.space]

theorem EncodedLength.strobeRstRdptr : EncodedLength.Statement (.strobeRstRdptr) := fun _ _ => by simp [encode, Instr.space]

theorem EncodedLength.tickBindTx (k : BindTx) : EncodedLength.Statement (.tickBindTx k) := fun _ _ => by simp [encode, Instr.space]

theorem EncodedLength.tickTxDone (k : BindTx) : EncodedLength.Statement (.tickTxDone k) := fun _ _ => by simp [encode, Instr.space]

theorem EncodedLength.tickListen (k : BindListen) : EncodedLength.Statement (.tickListen k) := fun _ _ => by simp [encode, Instr.space]

theorem EncodedLength.tickBind8 : EncodedLength.Statement (.tickBind8) := fun _ _ => by simp [encode, Instr.space]

theorem EncodedLength.tickData (k : DataStep) : EncodedLength.Statement (.tickData k) := fun _ _ => by simp [encode, Instr.space]

theorem EncodedLength.tickBadState (k : Stopped) : EncodedLength.Statement (.tickBadState k) := fun _ _ => by simp [encode, Instr.space]

end Sys2Proof.Laws
end

