-- ==== Sys2Proof/Tests/Slice0.lean ====
section
/-! SUPPORT. Small tests of the model, one step each, their expected results from 95_test_vectors.md and the encoding tables;
and, for each statement with hypotheses, a state and operands that meet them. -/

namespace Sys2Proof.Tests

open Sys2Proof Sys2Proof.Machine

/-- This hardware with three attempts in place of the open value (95_test_vectors.md P6). -/
def cfg : Config := { Config.hardware with seqRetries := 2 }

/-- Reset, with the session of 95_test_vectors.md section 2.4. -/
def base : State := { State.reset with config := cfg, channel := 0x14, sessionId := 0x11223344 }

/-- The same with the axes of 95_test_vectors.md section 2.5. -/
def flying : State := { base with throttle := 100, rudder := 50, elevator := 200, aileron := 10, txpower := 0x07 }

/-- The next state meets `p`. -/
def nextIs (o : Host.Outcome State Fault Refusal) (p : State → Bool) : Bool :=
  match o with
  | .next t => p t
  | _ => false

def refused (o : Host.Outcome State Fault Refusal) (r : Refusal) : Bool :=
  match o with
  | .refused q => decide (q = r)
  | _ => false

def faulted (o : Host.Outcome State Fault Refusal) (f : Fault) : Bool :=
  match o with
  | .fault g => decide (g = f)
  | _ => false

def sent (t : State) : List (List Byte) := t.trace.map Frame.mosi

def zeros (n : Nat) : List Byte := List.replicate n 0x00

def ones (n : Nat) : List Byte := List.replicate n 0x01

/-- The draws of a poll with the busy bit clear, then of a reply (95_test_vectors.md V-B7). -/
def reply (l : List Byte) : List Byte := [0x00, 0x00, 0x00] ++ l.flatMap fun b => [0x00, b]

/-! ## Ill-formed terms -/

theorem test_wf_illegalOpcode : Instr.wf (.illegalOpcode 0x0D) = false ∧ Instr.wf (.illegalOpcode 0x0E) = true := by decide
theorem test_wf_spiRead : Instr.wf (.spiRead 0x33) = false ∧ Instr.wf (.spiRead 0x32) = true := by decide
theorem test_wf_spiWrite : Instr.wf (.spiWrite 0x33 0x00) = false ∧ Instr.wf (.spiWrite 0x32 0x00) = true := by decide
theorem test_wf_spiBurst_empty : Instr.wf (.spiBurst []) = false := by decide
theorem test_wf_spiBurst_long : Instr.wf (.spiBurst (zeros 17)) = false ∧ Instr.wf (.spiBurst (zeros 16)) = true := by decide

/-! ## Decoding: bytes written out from 30_encoding.md R112, R115 to R119, R124 -/

theorem test_decode_nop : decode cfg .command [0b00000000] = .ok .nop := by rfl
theorem test_decode_regRead : decode cfg .command [0b00000001] = .ok .regRead := by rfl
theorem test_decode_regWrite : decode cfg .command [0b00000010] = .ok .regWrite := by rfl
theorem test_decode_strobe : decode cfg .command [0b00000011] = .ok .strobe := by rfl
theorem test_decode_setId : decode cfg .command [0b00000100] = .ok .setId := by rfl
theorem test_decode_fifoWrite : decode cfg .command [0b00000101] = .ok .fifoWrite := by rfl
theorem test_decode_fifoRead : decode cfg .command [0b00000110] = .ok .fifoRead := by rfl
theorem test_decode_scan : decode cfg .command [0b00000111] = .ok .scan := by rfl
theorem test_decode_buildBind : decode cfg .command [0b00001000] = .ok .buildBind := by rfl
theorem test_decode_buildData : decode cfg .command [0b00001001] = .ok .buildData := by rfl
theorem test_decode_bindStart : decode cfg .command [0b00001010] = .ok .bindStart := by rfl
theorem test_decode_tick : decode cfg .command [0b00001011] = .ok .tick := by rfl
theorem test_decode_bindSeq : decode cfg .command [0b00001100] = .ok .bindSeq := by rfl
theorem test_decode_abort : decode cfg .command [0b00001101] = .ok .abort := by rfl
theorem test_decode_illegalOpcode : decode cfg .command [0b11111111] = .ok (.illegalOpcode 0xFF) := by rfl
theorem test_decode_spiRead : decode cfg .frame [0b01110010, 0b00000000] = .ok (.spiRead 0x32) := by rfl
theorem test_decode_spiWrite : decode cfg .frame [0b00001111, 0b00010100] = .ok (.spiWrite 0x0F 0x14) := by rfl
theorem test_decode_spiBurst : decode cfg .frame [0b00000101, 0xAA, 0xBB, 0xCC] = .ok (.spiBurst [0xAA, 0xBB, 0xCC]) := by rfl
theorem test_decode_spiId : decode cfg .frame [0b00000110, 0x12, 0x34, 0x56, 0x78] = .ok (.spiId 0x12345678) := by rfl
theorem test_decode_strobeSleep : decode cfg .frame [0b10000000] = .ok .strobeSleep := by rfl
theorem test_decode_strobeIdle : decode cfg .frame [0b10010000] = .ok .strobeIdle := by rfl
theorem test_decode_strobeStandby : decode cfg .frame [0b10100000] = .ok .strobeStandby := by rfl
theorem test_decode_strobePll : decode cfg .frame [0b10110000] = .ok .strobePll := by rfl
theorem test_decode_strobeRx : decode cfg .frame [0b11000000] = .ok .strobeRx := by rfl
theorem test_decode_strobeTx : decode cfg .frame [0b11010000] = .ok .strobeTx := by rfl
theorem test_decode_strobeRstWrptr : decode cfg .frame [0b11100000] = .ok .strobeRstWrptr := by rfl
theorem test_decode_strobeRstRdptr : decode cfg .frame [0b11110000] = .ok .strobeRstRdptr := by rfl
theorem test_decode_tickBindTx : decode cfg .state [0b00000100] = .ok (.tickBindTx .bind5) := by rfl
theorem test_decode_tickTxDone : decode cfg .state [0b10000110] = .ok (.tickTxDone .bind7) := by rfl
theorem test_decode_tickListen : decode cfg .state [0b00000011] = .ok (.tickListen .bind4) := by rfl
theorem test_decode_tickBind8 : decode cfg .state [0b00000111] = .ok .tickBind8 := by rfl
theorem test_decode_tickData : decode cfg .state [0b00001100] = .ok (.tickData .data5) := by rfl
theorem test_decode_tickBadState : decode cfg .state [0b00001110] = .ok (.tickBadState .bindFailed) := by rfl

/-- Bytes that are no instruction (R122, R124). -/
theorem test_decode_rejects :
    decode cfg .frame [0b10000101] = .error .noStrobeCode ∧ decode cfg .frame [0b01110011, 0x00] = .error .addressAboveMax ∧
    decode cfg .frame [0b00000101] = .error .noSuchLength ∧ decode cfg .state [0b00001101] = .error .unreachableState := by
  exact ⟨rfl, rfl, rfl, rfl⟩

/-- Words of the opcode table: a command, a READ, a WRITE, a strobe, the 40 bits of an ID frame. -/
theorem test_table_words :
    decodeTableWord 8 0x0B = some .tick ∧ decodeTableWord 16 0x0072 = some (.spiRead 0x32) ∧
    decodeTableWord 16 0x140F = some (.spiWrite 0x0F 0x14) ∧ decodeTableWord 8 0xA0 = some .strobeStandby ∧
    decodeTableWord 40 0x7856341206 = some (.spiId 0x12345678) ∧ decodeTableWord 8 0x0E = some (.illegalOpcode 0x0E) := by
  refine ⟨?_, ?_, ?_, ?_, ?_, ?_⟩ <;> rfl

/-! ## The host's accesses (95_test_vectors.md sections 2.6 and 2.7) -/

/-- V-E1. -/
theorem test_step_illegal :
    nextIs (step { base with hostQueue := [.write 0x00 0x0E] }) (fun t =>
      t.cmd = 0x0E ∧ memRead t 0x04 = 0x01 ∧ t.errcode = 0x01 ∧ t.trace = []) = true := by decide

/-- V-E3. -/
theorem test_step_ack :
    nextIs (step { base with hostQueue := [.write 0x04 0x01], err := true, txto := true, bfail := true, errcode := 0x03 })
      (fun t => memRead t 0x04 = 0x06 ∧ t.errcode = 0x00) = true := by decide

/-- V-E6 and V-E7. -/
theorem test_status_derived : memRead { base with state := 0x0A } 0x04 = 0x08 ∧ memRead { base with state := 0x84 } 0x04 = 0x10 := by
  decide

/-- V-R1 to V-R4. -/
theorem test_reset_reads :
    ([0x06, 0x09, 0x19, 0x1A, 0x1B, 0x1E, 0x80, 0xFF].map (memRead State.reset)) =
      [0x0F, 0x02, 0x80, 0x80, 0x80, 0x00, 0x00, 0x00] := by decide

/-- V-R5 and V-R7. -/
theorem test_host_writes :
    nextIs (step { base with hostQueue := [.write 0x06 0x05] }) (fun t => memRead t 0x06 = 0x0F) = true ∧
    nextIs (step { base with hostQueue := [.write 0x10 0xAA] }) (fun t => memRead t 0x10 = 0xAA ∧ memRead t 0x11 = 0x22) = true := by
  decide

/-- A table word runs as the next step (log entry 11). -/
theorem test_fetch_word :
    nextIs (step (base.withFetchWord 16 0x0072)) (fun t => sent t = [[0x72, 0x00]]) = true ∧
    nextIs (step (base.withFetchWord 8 0x0D)) (fun t => t.state = 0x0F) = true := by
  decide

/-! ## One step of each instruction -/

/-- V-T2. -/
theorem test_regRead :
    nextIs (exec .regRead { base with arg0 := 0x32, misoQueue := [0x00, 0x5A] }) (fun t =>
      sent t = [[0x72, 0x00]] ∧ t.rdata = 0x5A) = true := by decide

/-- V-T3. -/
theorem test_regRead_badAddr :
    nextIs (exec .regRead { base with arg0 := 0x33, rdata := 0x77 }) (fun t =>
      sent t = [] ∧ t.err ∧ t.errcode = 0x02 ∧ t.rdata = 0x77) = true := by decide

/-- V-T4. -/
theorem test_regWrite :
    nextIs (exec .regWrite { base with arg0 := 0x0F, arg1 := 0x14, misoQueue := zeros 2, channel := 0x55 }) (fun t =>
      sent t = [[0x0F, 0x14]] ∧ t.channel = 0x55) = true := by decide

/-- V-T8: a TX strobe moves no output. -/
theorem test_strobe :
    nextIs (exec .strobe { base with arg0 := 0xD0, misoQueue := zeros 1 }) (fun t =>
      sent t = [[0xD0]] ∧ t.lastStrobe = 0xD0 ∧ memRead t 0x09 = 0x02 ∧ t.txcount = 0) = true := by decide

/-- V-T9. -/
theorem test_strobe_bad :
    nextIs (exec .strobe { base with arg0 := 0x85, lastStrobe := 0xA0 }) (fun t =>
      sent t = [] ∧ t.errcode = 0x04 ∧ t.lastStrobe = 0xA0) = true := by decide

/-- V-T11. -/
theorem test_setId :
    nextIs (exec .setId { base with devId := 0x12345678, misoQueue := zeros 5 }) (fun t =>
      sent t = [[0x06, 0x12, 0x34, 0x56, 0x78]] ∧ t.devId = 0x12345678) = true := by decide

/-- V-T14: two busy polls, then a clear one. -/
theorem test_fifoWrite :
    nextIs (exec .fifoWrite { base with
      arg0 := 0x02, arg1 := 0x37, txbuf := Vector.replicate 16 0xAA
      misoQueue := zeros 7 ++ [0x00, 0x01, 0x00, 0x01, 0x00, 0x00] }) (fun t =>
      sent t = [[0xE0], [0x05, 0xAA, 0xAA], [0x0F, 0x37], [0xD0], [0x40, 0x00], [0x40, 0x00], [0x40, 0x00]] ∧
      t.txcount = 1 ∧ t.txto = false ∧ memRead t 0x09 = 0x02 ∧ t.lastStrobe = 0xD0) = true := by decide

/-- V-T15: the poll runs out. -/
theorem test_fifoWrite_timeout :
    nextIs (exec .fifoWrite { base with arg0 := 0x10, arg1 := 0x14, misoQueue := ones 61 }) (fun t =>
      t.trace.length = 24 ∧ t.txto ∧ t.txcount = 1 ∧ t.err = false) = true := by decide +kernel

/-- V-T19. -/
theorem test_fifoRead :
    nextIs (exec .fifoRead { base with
      arg0 := 0x02, rxbuf := Vector.replicate 16 0x77, misoQueue := [0x00, 0x00, 0x55, 0x00, 0xAA] }) (fun t =>
      sent t = [[0xF0], [0x45, 0x00], [0x45, 0x00]] ∧
      t.rxbuf.toList = [0x55, 0xAA] ++ List.replicate 14 0x77) = true := by decide

/-- V-T18. -/
theorem test_fifoRead_badLen :
    nextIs (exec .fifoRead { base with arg0 := 0x11 }) (fun t => sent t = [] ∧ t.errcode = 0x03) = true := by decide

/-- The draws of V-C4: channels 0x46 and 0x78 answer 0x40, the others 0x10. -/
def tieDraws : List Byte :=
  (List.range 12).flatMap fun i =>
    zeros 4 ++ (List.replicate 15 [0x00, if i = 5 ∨ i = 10 then 0x40 else 0x10]).flatten

/-- V-C4: the tie keeps the lower index. -/
theorem test_scan :
    nextIs (exec .scan { base with misoQueue := tieDraws }) (fun t =>
      t.bestIdx = 5 ∧ t.channel = 0x46 ∧ t.rssiSum[10] = 0x03C0 ∧ t.rssiSum[11] = 0x00F0 ∧ t.lastStrobe = 0xC0 ∧
      t.trace.length = 216) = true := by decide +kernel

/-- V-P2. -/
theorem test_buildBind :
    nextIs (exec .buildBind { base with arg0 := 0x01 }) (fun t => t.txbuf.toList =
      [0x01, 0x14, 0x11, 0x22, 0x33, 0x44, 0x08, 0xE4, 0xEA, 0x9E, 0x50, 0xDB, 0x04, 0x26, 0x38, 0x40]) = true := by decide

/-- V-P9. -/
theorem test_buildData :
    nextIs (exec .buildData { flying with flags := 0x04 }) (fun t => t.txbuf.toList =
      [0x20, 0x00, 0x64, 0x00, 0xCD, 0x00, 0x37, 0x00, 0x0A, 0x04, 0x00, 0x00, 0x00, 0x00, 0x00, 0x6A]) = true := by decide

/-- V-B17. -/
theorem test_bindStart :
    nextIs (exec .bindStart { base with state := 0x0A, restarts := 3, delayUs := 500 }) (fun t =>
      t.state = 0x00 ∧ t.restarts = 0 ∧ t.delayUs = 0) = true := by decide

/-- V-B16. -/
theorem test_abort :
    nextIs (exec .abort { base with state := 0x09, rebindReq := true, delayUs := 500 }) (fun t =>
      t.state = 0x0F ∧ t.rebindReq = false ∧ t.delayUs = 0) = true := by decide

/-- V-B14. -/
theorem test_tick_idle :
    nextIs (exec .tick { base with delayUs := 500 }) (fun t => t.errcode = 0x05 ∧ t.state = 0x0F ∧ t.delayUs = 500) = true := by
  decide

/-- R331. -/
theorem test_tick_unreachable : faulted (exec .tick { base with state := 0x0D }) .unreachableState = true := by decide

/-- V-B3. -/
theorem test_tickBindTx :
    nextIs (exec (.tickBindTx .bind7) { base with state := 0x06, misoQueue := zeros 24 }) (fun t =>
      sent t = [[0xA0], [0xE0],
        [0x05, 0x09, 0x14, 0x11, 0x22, 0x33, 0x44, 0x08, 0xE4, 0xEA, 0x9E, 0x50, 0xDB, 0x04, 0x26, 0x38, 0x38],
        [0x0F, 0x14], [0xD0], [0x40, 0x00]] ∧ t.state = 0x86 ∧ t.delayUs = 3000 ∧ t.txcount = 1) = true := by decide

/-- V-B4. -/
theorem test_tickTxDone :
    nextIs (exec (.tickTxDone .bind1) { base with state := 0x80, misoQueue := zeros 3 }) (fun t =>
      sent t = [[0x40, 0x00], [0xC0]] ∧ t.state = 0x01 ∧ t.delayUs = 4500 ∧ t.lastStrobe = 0xC0) = true := by decide

/-- V-B5. -/
theorem test_tickTxDone_timeout :
    nextIs (exec (.tickTxDone .bind5) { base with state := 0x84, misoQueue := ones 41 }) (fun t =>
      t.trace.length = 21 ∧ t.state = 0x05 ∧ t.txto) = true := by decide +kernel

/-- V-B8. -/
theorem test_tickListen :
    nextIs (exec (.tickListen .bind4) { base with
      state := 0x03, misoQueue := reply ([0x01, 0x14, 0xDE, 0xAD, 0xBE, 0xEF] ++ zeros 9 ++ [0xB3]) ++ zeros 5 }) (fun t =>
      (sent t).getLast? = some [0x06, 0xDE, 0xAD, 0xBE, 0xEF] ∧ t.trace.length = 19 ∧ t.state = 0x04 ∧ t.delayUs = 500 ∧
      t.devId = 0xDEADBEEF) = true := by decide +kernel

/-- V-B18: the restart count saturates. -/
theorem test_tickListen_fail :
    nextIs (exec (.tickListen .bind2) { base with state := 0x01, restarts := 0xFF, misoQueue := ones 2 }) (fun t =>
      sent t = [[0x40, 0x00]] ∧ t.state = 0x00 ∧ t.delayUs = 4500 ∧ t.restarts = 0xFF) = true := by decide

/-- V-B12. -/
theorem test_tickBind8 :
    nextIs (exec .tickBind8 { base with state := 0x07, restarts := 2, misoQueue := reply ([0x01, 0x09] ++ zeros 14) ++ zeros 3 })
      (fun t => (sent t).drop 18 = [[0x1F, 0x0F], [0xA0]] ∧ t.state = 0x08 ∧ t.delayUs = 28000 ∧ t.restarts = 0 ∧
        memRead t 0x04 = 0x08) = true := by decide +kernel

/-- V-B11. -/
theorem test_tickBind8_noCode :
    nextIs (exec .tickBind8 { base with state := 0x07, restarts := 2, misoQueue := reply ([0x01, 0x08] ++ zeros 14) })
      (fun t => t.trace.length = 18 ∧ t.state = 0x06 ∧ t.delayUs = 15000 ∧ t.restarts = 2) = true := by decide +kernel

/-- V-D1. -/
theorem test_tickData :
    nextIs (exec (.tickData .data1) { flying with state := 0x08, misoQueue := zeros 25 }) (fun t =>
      sent t = [[0x28, 0x07], [0xE0],
        [0x05, 0x20, 0x00, 0x64, 0x00, 0xCD, 0x00, 0x37, 0x00, 0x0A, 0x00, 0x00, 0x00, 0x00, 0x00, 0x00, 0x6E],
        [0x0F, 0x14], [0xD0], [0x40, 0x00]] ∧ t.state = 0x09 ∧ t.delayUs = 10000) = true := by decide

/-- V-D5: the secondary channel wraps. -/
theorem test_tickData_secondary :
    nextIs (exec (.tickData .data5) { flying with state := 0x0C, channel := 0xF0, misoQueue := zeros 23 }) (fun t =>
      (sent t)[2]? = some [0x0F, 0x13] ∧ t.state = 0x08) = true := by decide

/-- V-B15. -/
theorem test_tickBadState :
    nextIs (exec (.tickBadState .bindFailed) { base with state := 0x0E }) (fun t => t.errcode = 0x05 ∧ t.state = 0x0E) = true := by
  decide

/-- The draws of P5, the level-3 reply with A1 B2 C3 D4 in its bytes 2..5. -/
def seqDraws : List Byte := zeros 91 ++ [0xA1, 0x00, 0xB2, 0x00, 0xC3, 0x00, 0xD4] ++ zeros 677

/-- P5: the round number stands in byte 1 of the level-9 packets, the checksum follows it; and R266, the ID frame between
the second and the third exchange of 24 frames each, and the frames of R260. The run meets the hypotheses of
SequentialBindTakesThirteenTransmissions. -/
theorem witness_SequentialBindTakesThirteenTransmissions :
    nextIs (exec .bindSeq { base with misoQueue := seqDraws }) (fun t =>
      base.config.wf && decide (ModeClear { base with misoQueue := seqDraws } t) &&
      decide (t.state = 0x08 ∧ t.round = 0x0D ∧ t.txcount = 0x0D ∧ t.trace.length = 315 ∧ t.devId = 0xA1B2C3D4 ∧
        (sent t)[48]? = some [0x06, 0xA1, 0xB2, 0xC3, 0xD4] ∧ (sent t).drop 313 = [[0x1F, 0x0F], [0xA0]] ∧
        (sent t)[74]? = some [0x05, 0x09, 0x00, 0x11, 0x22, 0x33, 0x44, 0x08, 0xE4, 0xEA, 0x9E, 0x50, 0xDB, 0x04, 0x26, 0x38, 0x4C] ∧
        t.txbuf.toList =
          [0x09, 0x09, 0x11, 0x22, 0x33, 0x44, 0x08, 0xE4, 0xEA, 0x9E, 0x50, 0xDB, 0x04, 0x26, 0x38, 0x43])) = true := by
  decide +kernel

/-- R264 and R268 by hand: the first exchange is answered at its second attempt, the second is never: five transmissions, of
levels 1, 1, 3, 3, 3. -/
theorem test_bindSeq_retries :
    nextIs (exec .bindSeq { base with
      misoQueue := zeros 24 ++ (List.replicate 15 [0x00, 0x01]).flatten ++ zeros 60 ++ ones 279 }) (fun t =>
      t.state = 0x0E ∧ t.bfail ∧ t.txto ∧ t.round = 1 ∧ t.txcount = 5 ∧
      (bursts base t).map (·.take 2) = [[0x05, 0x01], [0x05, 0x01], [0x05, 0x03], [0x05, 0x03], [0x05, 0x03]]) = true := by
  decide +kernel

/-- This hardware with one attempt, its vehicle silent. -/
def silent : State := { base with config := { cfg with seqRetries := 0 }, misoQueue := ones 93 }

/-- P6, one attempt of its three. The runs meet the hypotheses of each clause of SilentVehicleFailsTheSequentialBind. -/
theorem witness_SilentVehicleFailsTheSequentialBind :
    (exchange cfg.seqMaxAttempts { base with misoQueue := zeros 59 }).1 = .ok ∧
    (exchange silent.config.seqMaxAttempts silent).1 = .fail ∧
    nextIs (exec .bindSeq silent) (fun t =>
      decide (ModeBusy silent t) &&
      decide (t.state = 0x0E ∧ memRead t 0x04 = 0x06 ∧ t.round = 0 ∧ t.txcount = 1 ∧ t.trace.length = 41 ∧
        t.lastStrobe = 0xA0)) = true := by
  decide +kernel

/-- 40_transport.md R152, the frames: each strobe sends its code. -/
theorem test_strobe_frames :
    ([Instr.strobeSleep, .strobeIdle, .strobeStandby, .strobePll, .strobeRx, .strobeTx, .strobeRstWrptr,
      .strobeRstRdptr].zip [0x80, 0x90, 0xA0, 0xB0, 0xC0, 0xD0, 0xE0, 0xF0]).all (fun p =>
        nextIs (exec p.1 { base with misoQueue := [0x00] }) (fun t => sent t = [[p.2]] ∧ t.lastStrobe = p.2)) = true := by decide

/-- 30_encoding.md R115 to R119, the frames with operands. -/
theorem test_frames :
    nextIs (exec (.spiRead 0x32) { base with misoQueue := [0x00, 0x5A] }) (fun t => t.trace = [⟨[0x72, 0x00], [0x00, 0x5A]⟩]) ∧
    nextIs (exec (.spiWrite 0x0F 0x14) { base with misoQueue := zeros 2 }) (fun t => sent t = [[0x0F, 0x14]]) ∧
    nextIs (exec (.spiBurst [0xAA]) { base with misoQueue := zeros 2 }) (fun t => sent t = [[0x05, 0xAA]]) ∧
    nextIs (exec (.spiId 0xCAFEBABE) { base with misoQueue := zeros 5 }) (fun t => sent t = [[0x06, 0xCA, 0xFE, 0xBA, 0xBE]]) := by
  decide

/-! ## What the statements ask for, met -/

/-- `base` with the host's next access. -/
def asked (h : HostAccess) : State := { base with hostQueue := [h] }

/-- WriteOfCmdExecutesItsOpcode: every opcode it names, and both ends of the illegal range. -/
theorem witness_WriteOfCmdExecutesItsOpcode :
    ∀ v ∈ ([0x00, 0x01, 0x02, 0x03, 0x04, 0x05, 0x06, 0x07, 0x08, 0x09, 0x0A, 0x0B, 0x0C, 0x0D, 0x0E, 0xFF] : List Byte),
      (asked (.write 0x00 v)).config.wf = true ∧ (asked (.write 0x00 v)).hostQueue = .write 0x00 v :: [] ∧
      (v ∈ ([0x00, 0x01, 0x02, 0x03, 0x04, 0x05, 0x06, 0x07, 0x08, 0x09, 0x0A, 0x0B, 0x0C, 0x0D] : List Byte) ∨
        0x0E ≤ v.toNat) := by
  decide

/-- StepRunsTheDecodedCommand. -/
theorem witness_StepRunsTheDecodedCommand :
    (asked (.write 0x00 0x0B)).config.wf = true ∧ (asked (.write 0x00 0x0B)).hostQueue = .write 0x00 0x0B :: [] ∧
    decode (asked (.write 0x00 0x0B)).config .command [0x0B] = .ok .tick := ⟨by decide, rfl, rfl⟩

/-- TickRunsTheArmOfTheStateByte: the last clause, at the values next to reachable ones. -/
theorem witness_TickRunsTheArmOfTheStateByte :
    (∀ b ∈ reachableStates, ({ base with state := b } : State).state = b) ∧
    ∀ b ∈ ([0x0D, 0x10, 0x81, 0x88, 0xFF] : List Byte), ({ base with state := b } : State).state ∉ reachableStates := by decide

/-- TickCompletesInEveryActiveState: every active value. -/
theorem witness_TickCompletesInEveryActiveState :
    ∀ b ∈ reachableStates.filter (fun b => b ≠ 0x0E ∧ b ≠ 0x0F),
      ({ base with state := b } : State).state ∈ reachableStates ∧ ({ base with state := b } : State).state ≠ 0x0E ∧
      ({ base with state := b } : State).state ≠ 0x0F := by decide

/-- HostReadHasNoSideEffect. -/
theorem witness_HostReadHasNoSideEffect :
    (asked (.read 0x06)).config.wf = true ∧ (asked (.read 0x06)).hostQueue = .read 0x06 :: [] := by decide

/-- HostWriteStoresOneByte: the ends of each range. -/
theorem witness_HostWriteStoresOneByte :
    ∀ a ∈ ([0x01, 0x02, 0x07, 0x10, 0x1D, 0x20, 0x2F] : List Byte),
      (asked (.write a 0xAA)).config.wf = true ∧ (asked (.write a 0xAA)).hostQueue = .write a 0xAA :: [] ∧
      (a = 0x01 ∨ a = 0x02 ∨ a = 0x07 ∨ (0x10 ≤ a.toNat ∧ a.toNat ≤ 0x1D) ∨ (0x20 ≤ a.toNat ∧ a.toNat ≤ 0x2F)) := by decide

/-- HostWriteOfReadOnlyIsIgnored: the ends of each range. -/
theorem witness_HostWriteOfReadOnlyIsIgnored :
    ∀ a ∈ ([0x03, 0x05, 0x06, 0x08, 0x09, 0x0B, 0x0F, 0x30, 0x58] : List Byte),
      (asked (.write a 0xAA)).config.wf = true ∧ (asked (.write a 0xAA)).hostQueue = .write a 0xAA :: [] ∧
      (a = 0x03 ∨ a = 0x05 ∨ a = 0x06 ∨ a = 0x08 ∨ a = 0x09 ∨ (0x0B ≤ a.toNat ∧ a.toNat ≤ 0x0F) ∨
        (0x30 ≤ a.toNat ∧ a.toNat ≤ 0x58)) := by decide

/-- ReservedReadsZeroAndIgnoresWrites: the ends of each range. -/
theorem witness_ReservedReadsZeroAndIgnoresWrites :
    ∀ a ∈ ([0x1E, 0x1F, 0x59, 0xFF] : List Byte), a = 0x1E ∨ a = 0x1F ∨ 0x59 ≤ a.toNat := by decide

/-- StatusAndCtrlWrites. -/
theorem witness_StatusAndCtrlWrites :
    base.config.wf = true ∧ (asked (.write 0x04 0x07)).hostQueue = .write 0x04 0x07 :: [] ∧
    (asked (.write 0x0A 0xFF)).hostQueue = .write 0x0A 0xFF :: [] := by decide

/-- BlockWaitsForTheHost. -/
theorem witness_BlockWaitsForTheHost : base.config.wf = true ∧ base.hostQueue = [] := by decide

/-- BrokenParametersAreRefused: one constraint broken at a time, just outside its range. -/
theorem witness_BrokenParametersAreRefused :
    ([{ cfg with flagsIndex := 8 }, { cfg with flagsIndex := 15 }, { cfg with seqByteIndex := 0 }, { cfg with seqByteIndex := 15 },
      { cfg with rssiSamples := 0 }, { cfg with rssiSamples := 258 }, { cfg with txPollMax := 256 },
      { cfg with txdonePolls := 0 }, { cfg with txdonePolls := 256 }, { cfg with seqListenPolls := 0 },
      { cfg with seqListenPolls := 256 }, { cfg with bindMaxRestarts := 256 }, { cfg with strobeTx := 0xC0 },
      { cfg with strobeTx := 0x50 }] : List Config).all (fun c => refused (step { base with config := c }) .badConfig) = true := by
  decide

/-- ParametersAreFixed, TraceOnlyGrows, StepKeepsLegal's second premise: a step that answers a next state. -/
theorem witness_step_next : ∃ t, step (asked (.write 0x00 0x0D)) = .next t := ⟨_, rfl⟩

/-- DecodeOfEncodeIsTheInstruction: an instruction of each space, and the frame with two names. -/
theorem witness_DecodeOfEncodeIsTheInstruction :
    cfg.wf = true ∧ Instr.wf .tick = true ∧ Instr.wf (.spiWrite 0x32 0xFF) = true ∧
    (∀ v, Instr.spiWrite 0x32 0xFF ≠ .spiWrite 0x05 v) ∧ Instr.wf (.spiWrite 0x05 0xAA) = true ∧
    Instr.wf (.tickListen .bind4) = true := by
  refine ⟨by decide, rfl, rfl, ?_, rfl, rfl⟩
  intro v h
  injection h with h
  exact absurd h (by decide)

/-- EncodeOfDecodeIsTheBytes: bytes of each space. -/
theorem witness_EncodeOfDecodeIsTheBytes :
    decode cfg .command [0xFF] = .ok (.illegalOpcode 0xFF) ∧ decode cfg .frame [0x05, 0xAA] = .ok (.spiBurst [0xAA]) ∧
    decode cfg .state [0x86] = .ok (.tickTxDone .bind7) := ⟨rfl, rfl, rfl⟩

/-- ReadFrameIsSent, WriteFrameIsSent, FramesNeverSentAreRefused: the ends of the address ranges. -/
theorem witness_frame_addresses :
    (0x00 : BitVec 6).toNat ≤ 0x32 ∧ (0x32 : BitVec 6).toNat ≤ 0x32 ∧ 0x33 ≤ (0x33 : BitVec 6).toNat ∧
    0x33 ≤ (0x3F : BitVec 6).toNat := by decide

/-- BurstFrameIsSent, FramesNeverSentAreRefused: the ends of the lengths. -/
theorem witness_frame_lengths :
    (1 ≤ (zeros 1).length ∧ (zeros 1).length ≤ 16) ∧ (1 ≤ (zeros 16).length ∧ (zeros 16).length ≤ 16) ∧
    zeros 0 = [] ∧ 16 < (zeros 17).length := by decide

/-- StrobeFramesAreSentAndRecorded. -/
theorem witness_StrobeFramesAreSentAndRecorded :
    (Instr.strobeTx, base.config.strobeTx) ∈ [(Instr.strobeSleep, base.config.strobeSleep),
      (.strobeIdle, base.config.strobeIdle), (.strobeStandby, base.config.strobeStandby), (.strobePll, base.config.strobePll),
      (.strobeRx, base.config.strobeRx), (.strobeTx, base.config.strobeTx), (.strobeRstWrptr, base.config.strobeRstWrptr),
      (.strobeRstRdptr, base.config.strobeRstRdptr)] := by decide

/-- RegReadLatchesTheDrawnByte and RegWriteSendsTheDataByte: both sides of `REG_ADDR_MAX`. -/
theorem witness_register_addresses :
    ({ base with arg0 := 0x32 } : State).arg0.toNat ≤ 0x32 ∧ 0x32 < ({ base with arg0 := 0x33 } : State).arg0.toNat := by decide

/-- StrobeSendsItsCode. -/
theorem witness_StrobeSendsItsCode :
    ({ base with arg0 := 0xF0 } : State).arg0 ∈ base.config.strobes ∧
    ({ base with arg0 := 0xF1 } : State).arg0 ∉ base.config.strobes := by decide

/-- FifoWriteTransmitsThePacket and FifoReadFillsTheReplyBuffer: the ends of the lengths. -/
theorem witness_lengths :
    (1 ≤ ({ base with arg0 := 0x01 } : State).arg0.toNat ∧ ({ base with arg0 := 0x10 } : State).arg0.toNat ≤ 16) ∧
    ({ base with arg0 := 0x00 } : State).arg0.toNat = 0 ∧ 16 < ({ base with arg0 := 0x11 } : State).arg0.toNat := by decide

/-- PollReadsUntilTheFirstClearBusyBit: the third of three reads is clear; none of three is. -/
theorem witness_PollReadsUntilTheFirstClearBusyBit :
    (busy cfg (misoAt { base with misoQueue := [0, 1, 0, 1, 0, 0] } (2 * 3 - 1)) = false ∧
      ∀ i, 1 ≤ i → i < 3 → busy cfg (misoAt { base with misoQueue := [0, 1, 0, 1, 0, 0] } (2 * i - 1)) = true) ∧
    ∀ i, 1 ≤ i → i ≤ 3 → busy cfg (misoAt { base with misoQueue := ones 6 } (2 * i - 1)) = true := by
  refine ⟨⟨by decide, ?_⟩, ?_⟩
  · intro i h1 h2; interval_cases i <;> decide
  · intro i h1 h2; interval_cases i <;> decide

/-- BuildsAreIdempotent: two states that agree on what the builds read and differ elsewhere. -/
theorem witness_BuildsAreIdempotent :
    ∃ t u v : State, t ≠ flying ∧ t.config = flying.config ∧ exec .buildData flying = .next u ∧ exec .buildData t = .next v ∧
      t.throttle = flying.throttle ∧ t.rudder = flying.rudder ∧ t.elevator = flying.elevator ∧ t.aileron = flying.aileron ∧
      t.flags = flying.flags ∧ t.arg0 = flying.arg0 ∧ t.channel = flying.channel ∧ t.sessionId = flying.sessionId ∧
      (∃ u' v', exec .buildBind flying = .next u' ∧ exec .buildBind t = .next v') :=
  ⟨{ flying with txbuf := Vector.replicate 16 0xFF, state := 0x08 }, _, _, by decide, rfl, rfl, rfl, rfl, rfl, rfl, rfl, rfl, rfl,
    rfl, rfl, _, _, rfl, rfl⟩

/-- ScanSumsEveryChannelAndPicksOne, and any statement on a configuration that meets R9. -/
theorem witness_ScanSumsEveryChannelAndPicksOne : base.config.wf = true ∧ State.reset.config.wf = true := by decide

/-- SelectionKeepsTheLowestMaximalIndex: an index of a greatest sum; all sums equal. -/
theorem witness_SelectionKeepsTheLowestMaximalIndex :
    (∀ j : Fin 12, (#v[0, 0, 7, 0, 0, 7, 0, 0, 0, 0, 0, 0] : Vector Half 12)[j] ≤
      (#v[0, 0, 7, 0, 0, 7, 0, 0, 0, 0, 0, 0] : Vector Half 12)[(5 : Fin 12)]) ∧
    ∀ i j : Fin 12, (Vector.replicate 12 0x00F0 : Vector Half 12)[i] = (Vector.replicate 12 0x00F0 : Vector Half 12)[j] := by
  decide

/-- TickOutsideASessionIsBadState. -/
theorem witness_TickOutsideASessionIsBadState :
    ({ base with state := 0x0F } : State).state = 0x0F ∧ ({ base with state := 0x0E } : State).state = 0x0E := by decide

/-- TransmitArmSendsTheBindPacket and CompletionArmSwitchesToReceive. -/
theorem witness_bind_arms :
    (BindTx.bind7, (9 : Byte), (0x06 : Byte), (0x86 : Byte)) ∈ [(BindTx.bind1, (1 : Byte), (0x00 : Byte), (0x80 : Byte)),
      (.bind3, 3, 0x02, 0x82), (.bind5, 1, 0x04, 0x84), (.bind7, 9, 0x06, 0x86)] ∧
    ({ base with state := 0x06 } : State).state = 0x06 ∧ base.config.wf = true ∧
    (BindTx.bind7, (0x86 : Byte), (0x07 : Byte)) ∈ [(BindTx.bind1, (0x80 : Byte), (0x01 : Byte)), (.bind3, 0x82, 0x03),
      (.bind5, 0x84, 0x05), (.bind7, 0x86, 0x07)] ∧ ({ base with state := 0x86 } : State).state = 0x86 := by decide

/-- FailedListenRestartsOrGivesUp: no bound; below a bound; at it; the count saturated. -/
theorem witness_FailedListenRestartsOrGivesUp :
    base.config.bindMaxRestarts = 0 ∧
    min (({ base with restarts := 0 } : State).restarts.toNat + 1) 255 < ({ cfg with bindMaxRestarts := 2 } : Config).bindMaxRestarts ∧
    ({ cfg with bindMaxRestarts := 2 } : Config).bindMaxRestarts ≤ min (({ base with restarts := 1 } : State).restarts.toNat + 1) 255 ∧
    ({ cfg with bindMaxRestarts := 255 } : Config).bindMaxRestarts ≤
      min (({ base with restarts := 0xFF } : State).restarts.toNat + 1) 255 := by decide

/-- ListenArmReadsTheReply: busy; clear. -/
theorem witness_ListenArmReadsTheReply :
    busy base.config (misoAt { base with misoQueue := ones 2 } 1) = true ∧
    busy base.config (misoAt { base with misoQueue := zeros 2 } 1) = false := by decide

/-- CompletionCodeEndsTheBind: a reply with the code, and one without. -/
theorem witness_CompletionCodeEndsTheBind :
    busy base.config (misoAt { base with misoQueue := reply ([0x01, 0x09] ++ zeros 14) } 1) = false ∧
    (readPacket 16 (sendAll [pollFrame base.config] { base with misoQueue := reply ([0x01, 0x09] ++ zeros 14) })).rxbuf[1] = 9 ∧
    (readPacket 16 (sendAll [pollFrame base.config] { base with misoQueue := reply ([0x01, 0x08] ++ zeros 14) })).rxbuf[1] ≠ 9 := by
  decide +kernel

/-- Three ticks of the bind but the last one's listening: the draws of a transmission and a completion (V-B1, V-B4). -/
def bindDraws : List Byte := zeros 24 ++ zeros 3

/-- A whole bind: four transmissions, four replies, the last with the completion code (43_bind.md R274). -/
def wholeBind : State :=
  { base with
    state := 0x00
    misoQueue := bindDraws ++ reply (zeros 16) ++ bindDraws ++ reply ([0x01, 0x14, 0xDE, 0xAD, 0xBE, 0xEF] ++ zeros 10) ++ zeros 5 ++
      bindDraws ++ reply (zeros 16) ++ bindDraws ++ reply ([0x01, 0x09] ++ zeros 14) ++ zeros 3 }

/-- The last of `n` ticks meets `p`. -/
def lastTick (n : Nat) (s : State) (p : State → Bool) : Bool :=
  match (ticks n s).bind List.getLast? with
  | some t => p t
  | none => false

/-- ShortestBindTakesTwelveTicks. -/
theorem witness_ShortestBindTakesTwelveTicks :
    wholeBind.config.wf = true ∧ wholeBind.state = 0x00 ∧
    lastTick 12 wholeBind (fun t => decide (ModeClear wholeBind t) && decide (t.rxbuf[1] = 9)) = true := by decide +kernel

/-- BindMayGoRoundForever: a vehicle silent at `BIND_2`; replies without the code at `BIND_8`. -/
theorem witness_BindMayGoRoundForever :
    ({ base with state := 0x00, misoQueue := bindDraws ++ ones 2 } : State).state = 0x00 ∧ base.config.bindMaxRestarts = 0 ∧
    lastTick 2 { base with state := 0x00, misoQueue := bindDraws ++ ones 2 } (fun b => busy cfg (misoAt b 1)) = true ∧
    lastTick 2 { base with state := 0x06, misoQueue := bindDraws ++ reply (zeros 16) } (fun b => !busy cfg (misoAt b 1)) = true ∧
    lastTick 3 { base with state := 0x06, misoQueue := bindDraws ++ reply (zeros 16) } (fun c => decide (c.rxbuf[1] ≠ 9)) = true := by
  decide +kernel

/-- DataArmFollowsItsTable: both modes, with and without the request. -/
theorem witness_DataArmFollowsItsTable :
    (DataStep.data5, (0x0C : Byte), (0x08 : Byte), base.channel + 0x23) ∈ [(DataStep.data1, (0x08 : Byte), (0x09 : Byte), base.channel),
      (.data2, 0x09, 0x0A, base.channel), (.data3, 0x0A, 0x0B, base.channel), (.data4, 0x0B, 0x0C, base.channel),
      (.data5, 0x0C, 0x08, base.channel + 0x23)] ∧
    ({ base with rebindReq := true } : State).rebindReq = true ∧ base.rebindReq = false ∧ base.config.dataMode = .cycled ∧
    ({ cfg with dataMode := .fixed } : Config).dataMode = .fixed := by decide

/-- DataCycleHasFiveTicks and DataPhaseEndsOnlyByRequest. -/
theorem witness_data_phase :
    ({ flying with state := 0x08 } : State).state = 0x08 ∧ flying.rebindReq = false ∧ flying.config.dataMode = .cycled ∧
    ({ flying with state := 0x0C } : State).state ∈ ([0x08, 0x09, 0x0A, 0x0B, 0x0C] : List Byte) ∧
    nextIs (exec .tick { flying with state := 0x0C }) (fun _ => true) = true := by decide

/-- NoInstructionWritesTheHostsRegisters, SingleWriterRegisters, ErrorsArePrecise, OnlySessionCommandsMoveTheStateMachine. -/
theorem witness_exec_next :
    (∃ t, exec .buildData flying = .next t) ∧ Instr.buildData ≠ .regRead ∧ Instr.buildData ≠ .scan ∧ Instr.buildData ≠ .bindSeq ∧
    Instr.buildData ∈ [Instr.nop, .regRead, .regWrite, .strobe, .setId, .fifoWrite, .fifoRead, .scan, .buildBind, .buildData] :=
  ⟨⟨_, rfl⟩, by decide, by decide, by decide, by decide⟩

/-- StepKeepsLegal and LegalStatesNeverStop: a legal state in mid-flight, with a command to come and a frame sent. -/
theorem witness_legal :
    Legal { flying with
      hostQueue := [.write 0x00 0x0B], state := 0x0C, lastStrobe := 0xD0, round := 13, err := true, errcode := 0x05
      trace := [⟨[0x40, 0x00], [0x00, 0x01]⟩] } := by
  refine ⟨by decide, by decide, by decide, by decide, by decide, by decide, by decide, by decide, ?_⟩
  intro f hf
  simp only [List.mem_cons, List.not_mem_nil, or_false] at hf
  subst hf
  exact ⟨rfl, .spiRead 0x00, rfl⟩

end Sys2Proof.Tests
end

-- The parameters (00_scope.md R9): what is refused, and what the types already hold.
section

namespace Sys2Proof

/-- `SEQ_MAX_ATTEMPTS` is in R9's range by the type of `seqRetries`, also where R8 leaves the value open. -/
theorem Config.seqMaxAttempts_mem_range (c : Config) : 1 ≤ c.seqMaxAttempts ∧ c.seqMaxAttempts ≤ 255 :=
  ⟨Nat.le_add_left 1 _, c.seqRetries.isLt⟩

/-- A delay fits `DELAY_US`. -/
theorem Half.toNat_le (d : Half) : d.toNat ≤ 65535 := Nat.le_of_lt_succ d.isLt

/-- The parameters this hardware takes meet R9; `wf` does not read the one that R8 leaves open. -/
theorem Config.hardware_wf : Config.hardware.wf = true := by decide

namespace Machine

/-- The guard of a step: parameters that are not well formed are refused, before the host's access is looked at. -/
theorem step_of_not_wf {s : State} (h : ¬ s.config.wf = true) : step s = .refused .badConfig := if_neg h

/-- Settles O14: well-formed parameters meet every constraint of R9 (`Config.wf_spec`), so breaking any one of them
meets the guard of the step. -/
theorem brokenParametersAreRefused : Obligations.BrokenParametersAreRefused := by
  refine ⟨fun s hbroken => step_of_not_wf fun hwf => ?_, fun c => ?_, Config.hardware_wf⟩
  · obtain ⟨hflags, hseqByte, hsamples, hpoll, hdone, hlisten, hrestarts, hdistinct, hbit7, -⟩ := Config.wf_spec hwf
    obtain h | h | h | h | h | h | h | h | ⟨b, hb, hclear⟩ := hbroken
    · exact h hflags
    · exact h hseqByte
    · exact h hsamples
    · exact h hpoll
    · exact h hdone
    · exact h hlisten
    · exact h hrestarts
    · exact h hdistinct
    · exact Bool.false_ne_true (hclear.symm.trans (hbit7 b hb))
  · obtain ⟨hone, hmax⟩ := c.seqMaxAttempts_mem_range
    exact ⟨hone, hmax, c.channelTable.length_toList, Half.toNat_le _, Half.toNat_le _, Half.toNat_le _, Half.toNat_le _,
      Half.toNat_le _, Half.toNat_le _, Half.toNat_le _⟩

end Machine

end Sys2Proof
end

-- The host register map (10_state.md R31, R32, R57): what each address reads, and what a write of it does.
section

namespace Sys2Proof.Machine

/-! ## The map -/

/-- The map sends the address of each register byte to that byte. -/
theorem hostByte_hostAddr (x : HostByte) : hostByte (hostAddr x) = x := by
  cases x with
  | sessionId i => revert i; decide
  | devId i => revert i; decide
  | txbuf i => revert i; decide
  | rxbuf i => revert i; decide
  | rssiHi i => revert i; decide
  | rssiLo i => revert i; decide
  | _ => rfl

/-- A host read of a register byte's address reads that byte. -/
theorem memRead_hostAddr (s : State) (x : HostByte) : memRead s (hostAddr x) = readByte s x :=
  congrArg (readByte s) (hostByte_hostAddr x)

/-- The RW addresses of R31, but for `CTRL`. -/
theorem access_hostByte_rw : ∀ a : Byte,
    (a = 0x01 ∨ a = 0x02 ∨ a = 0x07 ∨ (0x10 ≤ a.toNat ∧ a.toNat ≤ 0x1D) ∨ (0x20 ≤ a.toNat ∧ a.toNat ≤ 0x2F)) →
    (hostByte a).access = .rw := by decide

/-- The RO addresses of R31. -/
theorem access_hostByte_ro : ∀ a : Byte,
    (a = 0x03 ∨ a = 0x05 ∨ a = 0x06 ∨ a = 0x08 ∨ a = 0x09 ∨ (0x0B ≤ a.toNat ∧ a.toNat ≤ 0x0F) ∨
      (0x30 ≤ a.toNat ∧ a.toNat ≤ 0x58)) →
    (hostByte a).access = .ro := by decide

/-- The reserved addresses of R57. -/
theorem hostByte_reserved : ∀ a : Byte, a = 0x1E ∨ a = 0x1F ∨ 0x59 ≤ a.toNat → hostByte a = .reserved := by decide

/-! ## Reads -/

theorem pinsByte_eq (s : State) : pinsByte s = 0#6 ++ BitVec.ofBool s.rxen ++ BitVec.ofBool s.txen := by
  unfold pinsByte; cases s.rxen <;> cases s.txen <;> rfl

theorem ctrlByte_eq (s : State) : ctrlByte s = 0#7 ++ BitVec.ofBool s.rebindReq := by
  unfold ctrlByte; cases s.rebindReq <;> rfl

/-- Five bits put in their places are the five bits in a row. -/
theorem or_bits_eq_append : ∀ b4 b3 b2 b1 b0 : Bool,
    (bit b4 <<< 4) ||| (bit b3 <<< 3) ||| (bit b2 <<< 2) ||| (bit b1 <<< 1) ||| bit b0 =
      0#3 ++ BitVec.ofBool b4 ++ BitVec.ofBool b3 ++ BitVec.ofBool b2 ++ BitVec.ofBool b1 ++ BitVec.ofBool b0 := by
  decide

theorem statusByte_eq (s : State) :
    statusByte s = 0#3 ++ BitVec.ofBool (binding s) ++ BitVec.ofBool (bound s) ++ BitVec.ofBool s.bfail ++
      BitVec.ofBool s.txto ++ BitVec.ofBool s.err :=
  or_bits_eq_append _ _ _ _ _

/-- The bytes of `DATA_1` to `DATA_5` (R124). -/
theorem mem_dataCodes_iff : ∀ b : Byte,
    0x08 ≤ b.toNat ∧ b.toNat ≤ 0x0C ↔ b ∈ ([0x08, 0x09, 0x0A, 0x0B, 0x0C] : List Byte) := by decide

/-- The bytes whose `STEP` field is one of `BIND_1` to `BIND_8` (R123, R124). -/
theorem mem_bindSteps_iff : ∀ b : Byte, (b.extractLsb' 0 7).toNat ≤ 0x07 ↔
    b &&& 0x7F ∈ ([0x00, 0x01, 0x02, 0x03, 0x04, 0x05, 0x06, 0x07] : List Byte) := by decide

theorem bound_iff (s : State) : bound s = true ↔ s.state ∈ [0x08, 0x09, 0x0A, 0x0B, 0x0C] :=
  decide_eq_true_iff.trans (mem_dataCodes_iff s.state)

theorem binding_iff (s : State) :
    binding s = true ↔ s.state &&& 0x7F ∈ [0x00, 0x01, 0x02, 0x03, 0x04, 0x05, 0x06, 0x07] :=
  decide_eq_true_iff.trans (mem_bindSteps_iff s.state)

/-- Settles O5: each address is the address of its register's byte (`memRead_hostAddr`); the bytes of a wider register,
put together, are the register (`byteOf_append`, `highByte_append`). -/
theorem hostReadReturnsTheMappedRegister : Obligations.HostReadReturnsTheMappedRegister := fun s =>
  have reads (x : HostByte) := memRead_hostAddr s x
  ⟨reads .cmd, reads .arg0, reads .arg1, reads .rdata, reads .errcode, reads .state, reads .channel, reads .lastStrobe,
    (reads .pins).trans (pinsByte_eq s), (reads .ctrl).trans (ctrlByte_eq s), reads .restarts, reads .round,
    reads .txcount, highByte_append s.delayUs, byteOf_append s.sessionId, byteOf_append s.devId,
    reads .throttle, reads .rudder, reads .elevator, reads .aileron, reads .flags, reads .txpower, reads .bestIdx,
    fun i => reads (.txbuf i), fun i => reads (.rxbuf i),
    fun i => (congrArg₂ (· ++ ·) (reads (.rssiHi i)) (reads (.rssiLo i))).trans (highByte_append s.rssiSum[i])⟩

/-- Settles O6: the two derived bits are `binding` and `bound`. -/
theorem statusByteShowsTheStickyAndDerivedBits : Obligations.StatusByteShowsTheStickyAndDerivedBits := fun s =>
  ⟨binding s, bound s, statusByte_eq s, bound_iff s, binding_iff s⟩

/-! ## Writes -/

theorem memWrite_of_rw {a : Byte} (h : (hostByte a).access = .rw) (v : Byte) (s : State) :
    memWrite a v s = storeByte v s (hostByte a) := by simp only [memWrite, h]

theorem memWrite_of_ro {a : Byte} (h : (hostByte a).access = .ro) (v : Byte) (s : State) : memWrite a v s = s := by
  simp only [memWrite, h]

theorem memWrite_of_reserved {a : Byte} (h : hostByte a = .reserved) (v : Byte) (s : State) : memWrite a v s = s := by
  simp only [memWrite, h, HostByte.access]

/-- What no host write reaches: the parameters, the outputs, the trace, the transceiver and the host's own records. -/
def outOfHostReach (s : State) :
    Config × Bool × Bool × List Frame × List Byte × Nat × List HostAccess × List (Byte × Byte) :=
  (s.config, s.txen, s.rxen, s.trace, s.misoQueue, s.draws, s.hostQueue, s.hostReads)

theorem outOfHostReach_eq_iff {s t : State} : outOfHostReach t = outOfHostReach s ↔
    t.config = s.config ∧ t.txen = s.txen ∧ t.rxen = s.rxen ∧ t.trace = s.trace ∧ t.misoQueue = s.misoQueue ∧
      t.draws = s.draws ∧ t.hostQueue = s.hostQueue ∧ t.hostReads = s.hostReads := by
  simp only [outOfHostReach, Prod.mk.injEq]

theorem outOfHostReach_storeByte (v : Byte) (s : State) (x : HostByte) :
    outOfHostReach (storeByte v s x) = outOfHostReach s := by cases x <;> rfl

theorem outOfHostReach_memWrite (a v : Byte) (s : State) : outOfHostReach (memWrite a v s) = outOfHostReach s := by
  unfold memWrite
  split
  case h_1 | h_4 => exact outOfHostReach_storeByte v s _
  all_goals rfl

/-- No byte of the map shows the host's accesses to come. -/
theorem readByte_setHostQueue (s : State) (q : List HostAccess) (x : HostByte) :
    readByte { s with hostQueue := q } x = readByte s x := by cases x <;> rfl

/-- Settles O8: the write stores the byte at its place of the map (`readByte_storeByte`), and two addresses of one place
are one address (`hostByte_injective`). -/
theorem hostWriteStoresOneByte : Obligations.HostWriteStoresOneByte := by
  intro s a v q hw hq ha
  have hrw := access_hostByte_rw a ha
  have hnz : a ≠ 0x00 := by rintro rfl; cases hrw
  have hnr : hostByte a ≠ .reserved := fun h => by rw [h] at hrw; cases hrw
  have hread (b : Byte) : memRead (storeByte v { s with hostQueue := q } (hostByte a)) b =
      if hostByte b = hostByte a then v else memRead s b := by
    rw [memRead, readByte_storeByte v _ _ _ (.inl hrw), readByte_setHostQueue]; rfl
  obtain ⟨hconfig, -, -, htrace, hmiso, hdraws, hqueue, hreads⟩ :=
    outOfHostReach_eq_iff.1 (outOfHostReach_storeByte v { s with hostQueue := q } (hostByte a))
  refine ⟨_, (step_write hw hq hnz).trans (by rw [memWrite_of_rw hrw]), ?_, fun b hb => ?_, hconfig, htrace, hmiso,
    hdraws, hqueue, hreads⟩
  · rw [hread, if_pos rfl]
  · rw [hread, if_neg fun h => hb (hostByte_injective hnr h.symm).symm]

/-- Settles O9: the step is `MemWrite`, which leaves an RO register alone. -/
theorem hostWriteOfReadOnlyIsIgnored : Obligations.HostWriteOfReadOnlyIsIgnored := by
  intro s a v q hw hq ha
  have hro := access_hostByte_ro a ha
  have hnz : a ≠ 0x00 := by rintro rfl; cases hro
  rw [step_write hw hq hnz, memWrite_of_ro hro]

/-! ## Reserved bits -/

/-- An acknowledgement reads bits 2:0 of the byte written (R322). -/
theorem ackStatus_congr {v w : Byte} (h0 : w.getLsbD 0 = v.getLsbD 0) (h1 : w.getLsbD 1 = v.getLsbD 1)
    (h2 : w.getLsbD 2 = v.getLsbD 2) (s : State) : ackStatus w s = ackStatus v s := by
  simp only [ackStatus, h0, h1, h2]

theorem memWrite_status (v : Byte) (s : State) : memWrite 0x04 v s = ackStatus v s := rfl

theorem memWrite_ctrl (v : Byte) (s : State) : memWrite 0x0A v s = { s with rebindReq := v.getLsbD 0 } := rfl

/-- The reserved bits 7:5 of `STATUS` (R37). -/
theorem reserved_status_bits : ∀ b4 b3 b2 b1 b0 : Bool,
    (0#3 ++ BitVec.ofBool b4 ++ BitVec.ofBool b3 ++ BitVec.ofBool b2 ++ BitVec.ofBool b1 ++ BitVec.ofBool b0 : Byte) &&&
      0xE0 = 0x00 := by decide

/-- The reserved bits 7:2 of `PINS` (R42). -/
theorem reserved_pins_bits : ∀ b1 b0 : Bool, (0#6 ++ BitVec.ofBool b1 ++ BitVec.ofBool b0 : Byte) &&& 0xFC = 0x00 := by
  decide

/-- The reserved bits 7:1 of `CTRL` (R43). -/
theorem reserved_ctrl_bits : ∀ b : Bool, (0#7 ++ BitVec.ofBool b : Byte) &&& 0xFE = 0x00 := by decide

/-- Settles O10: the reserved addresses are no register's, and the packed bytes hold zeros where R57 names bits. -/
theorem reservedReadsZeroAndIgnoresWrites : Obligations.ReservedReadsZeroAndIgnoresWrites := by
  intro s a v
  refine ⟨fun ha => ?_, ?_, ?_, ?_, ?_, ?_, ?_⟩
  · have hres := hostByte_reserved a ha
    exact ⟨congrArg (readByte s) hres, memWrite_of_reserved hres v s⟩
  · exact (congrArg (· &&& 0xE0) (statusByte_eq s)).trans (reserved_status_bits _ _ _ _ _)
  · rw [memWrite_status, memWrite_status]
    exact (ackStatus_congr (by simp) (by simp) (by simp) s).symm
  · exact (congrArg (· &&& 0xFC) (pinsByte_eq s)).trans (reserved_pins_bits _ _)
  · exact memWrite_of_ro rfl v s
  · exact (congrArg (· &&& 0xFE) (ctrlByte_eq s)).trans (reserved_ctrl_bits _)
  · rw [memWrite_ctrl, memWrite_ctrl]
    simp

end Sys2Proof.Machine
end

-- What the instructions leave alone (10_state.md R33 to R36, R40, R42, R45, R48 to R52, R55, R56, R58).
section

namespace Sys2Proof.Machine

/-! ## The host's registers -/

/-- The registers that the host writes and no instruction does, with the parameters and the host's own records. -/
def hostsRegisters (s : State) :
    Byte × Byte × Byte × Word × Byte × Byte × Byte × Byte × Byte × Byte × Config ×
      List HostAccess × List (Byte × Byte) :=
  (s.cmd, s.arg0, s.arg1, s.sessionId, s.throttle, s.rudder, s.elevator, s.aileron, s.flags, s.txpower, s.config,
    s.hostQueue, s.hostReads)

theorem hostsRegisters_eq_iff {s t : State} : hostsRegisters t = hostsRegisters s ↔
    t.cmd = s.cmd ∧ t.arg0 = s.arg0 ∧ t.arg1 = s.arg1 ∧ t.sessionId = s.sessionId ∧ t.throttle = s.throttle ∧
      t.rudder = s.rudder ∧ t.elevator = s.elevator ∧ t.aileron = s.aileron ∧ t.flags = s.flags ∧
      t.txpower = s.txpower ∧ t.config = s.config ∧ t.hostQueue = s.hostQueue ∧ t.hostReads = s.hostReads := by
  simp only [hostsRegisters, Prod.mk.injEq]

theorem Moved.hostsRegisters {s t : State} (h : Moved s t) : hostsRegisters t = hostsRegisters s :=
  hostsRegisters_eq_iff.2 ⟨h.cmd, h.arg0, h.arg1, h.sessionId, h.throttle, h.rudder, h.elevator, h.aileron, h.flags,
    h.txpower, h.config, h.hostQueue, h.hostReads⟩

/-- Every way an instruction can go keeps the host's registers: what it adds to a bus sequence is a write of the error
registers, of `RDATA`, of the session's registers or of the scan's. -/
theorem Did.hostsRegisters {i : Instr} {s t : State} (h : Did i s t) : hostsRegisters t = hostsRegisters s := by
  cases h with
  | error e ht => subst ht; rfl
  | moved h _ => exact h.hostsRegisters
  | read _ u v h _ ht => subst ht; exact h.hostsRegisters
  | session h _ => obtain ⟨u, st, r, d, b, q, h, -, -, -, rfl⟩ := h; exact h.hostsRegisters
  | scanned _ u sums h _ _ ht => subst ht; exact h.hostsRegisters
  | aborted _ ht => subst ht; rfl
  | bound _ u n h _ _ ht => obtain ⟨-, rfl⟩ | ⟨-, -, rfl⟩ := ht <;> exact h.hostsRegisters

/-- Settles O53, by the ways an instruction can go (`exec_did`). -/
theorem noInstructionWritesTheHostsRegisters : Obligations.NoInstructionWritesTheHostsRegisters := fun _ _ _ h =>
  hostsRegisters_eq_iff.1 (exec_did h).hostsRegisters

/-! ## The registers of one writer -/

/-- Settles O54: of the ways an instruction can go, the read of a register alone writes `RDATA`, the scan alone writes
its three registers, the sequential bind alone counts in `ROUND`. -/
theorem singleWriterRegisters : Obligations.SingleWriterRegisters := by
  intro i s t h
  cases exec_did h with
  | error e ht => subst ht; exact ⟨fun _ => rfl, fun _ => ⟨rfl, rfl, rfl⟩, fun _ => rfl⟩
  | moved hm hr => exact ⟨fun _ => hm.rdata, fun _ => ⟨hm.channel, hm.rssiSum, hm.bestIdx⟩, fun _ => hr⟩
  | read hi u v hm hr ht =>
    subst ht; exact ⟨fun hne => absurd hi hne, fun _ => ⟨hm.channel, hm.rssiSum, hm.bestIdx⟩, fun _ => hr⟩
  | session hses _ =>
    obtain ⟨u, st, r, d, b, q, hm, hr, -, -, rfl⟩ := hses
    exact ⟨fun _ => hm.rdata, fun _ => ⟨hm.channel, hm.rssiSum, hm.bestIdx⟩, fun _ => hr⟩
  | scanned hi u sums hm hr _ ht => subst ht; exact ⟨fun _ => hm.rdata, fun hne => absurd hi hne, fun _ => hr⟩
  | aborted _ ht => subst ht; exact ⟨fun _ => rfl, fun _ => ⟨rfl, rfl, rfl⟩, fun _ => rfl⟩
  | bound hi u n hm _ _ ht =>
    obtain ⟨-, rfl⟩ | ⟨-, -, rfl⟩ := ht <;>
      exact ⟨fun _ => hm.rdata, fun _ => ⟨hm.channel, hm.rssiSum, hm.bestIdx⟩, fun hne => absurd hi hne⟩

/-! ## The trace and the outputs -/

/-- `t` has the trace of `s` with frames added, and the outputs in receive if `s` had. -/
def Extends (s t : State) : Prop := s.trace <+: t.trace ∧ (Receiving s → Receiving t)

theorem Moved.extends {s t : State} (h : Moved s t) : Extends s t := by
  obtain ⟨fs, htrace, -⟩ := h.trace
  exact ⟨⟨fs, htrace.symm⟩, h.receiving⟩

/-- A step that leaves the trace and the outputs alone. -/
theorem extends_of_eq {s t : State} (htrace : t.trace = s.trace) (htx : t.txen = s.txen) (hrx : t.rxen = s.rxen) :
    Extends s t :=
  ⟨htrace ▸ List.prefix_rfl, fun h => ⟨htx.trans h.1, hrx.trans h.2⟩⟩

/-- What an instruction adds to a bus sequence touches neither the trace nor the outputs. -/
theorem Did.extends {i : Instr} {s t : State} (h : Did i s t) : Extends s t := by
  cases h with
  | error e ht => subst ht; exact extends_of_eq rfl rfl rfl
  | moved h _ => exact h.extends
  | read _ u v h _ ht => subst ht; exact h.extends
  | session h _ => obtain ⟨u, st, r, d, b, q, h, -, -, -, rfl⟩ := h; exact h.extends
  | scanned _ u sums h _ _ ht => subst ht; exact h.extends
  | aborted _ ht => subst ht; exact extends_of_eq rfl rfl rfl
  | bound _ u n h _ _ ht => obtain ⟨-, rfl⟩ | ⟨-, -, rfl⟩ := ht <;> exact h.extends

theorem memWrite_extends (a v : Byte) (s : State) : Extends s (memWrite a v s) := by
  obtain ⟨-, htx, hrx, htrace, -⟩ := outOfHostReach_eq_iff.1 (outOfHostReach_memWrite a v s)
  exact extends_of_eq htrace htx hrx

/-- Every step extends the trace: a host access by nothing, a command by the frames it sends. -/
theorem step_extends {s t : State} (h : step s = .next t) : Extends s t := by
  revert h
  refine step_cases (P := fun o => o = .next t → Extends s t) ?hbad ?hwait ?hread ?hwrite ?hcmd
  case hbad => rintro - ⟨⟩
  case hwait => rintro - - ⟨⟩; exact extends_of_eq rfl rfl rfl
  case hread => rintro a q - - ⟨⟩; exact extends_of_eq rfl rfl rfl
  case hwrite => rintro a v q - - - ⟨⟩; exact memWrite_extends a v { s with hostQueue := q }
  case hcmd => exact fun v q _ _ h => (exec_did h).extends

/-- Settles O57, from what one step can add (`step_extends`). -/
theorem traceOnlyGrows : Obligations.TraceOnlyGrows := fun _ _ h =>
  have ⟨htrace, hpins⟩ := step_extends h
  ⟨htrace, fun htx hrx => hpins ⟨htx, hrx⟩⟩

end Sys2Proof.Machine
end

-- The host's accesses (20_memory.md R82, R92, R93): a command, a read, and the writes of STATUS and CTRL, each whole.
section

namespace Sys2Proof

/-- An opcode that is no command's is in R113's illegal range, so whatever byte decodes is well formed. -/
theorem decodeCommand_wf (op : Byte) : (decodeCommand op).wf = true := by
  by_cases hop : 0x0E ≤ op.toNat
  · rw [decodeCommand_illegal op hop]
    exact decide_eq_true hop
  · have hlt : op.toNat < 0x0E := Nat.lt_of_not_le hop
    unfold decodeCommand
    interval_cases op.toNat <;> rfl

/-- The command space has one-byte words, and every one of them decodes (R110, R111). -/
theorem decode_command_eq_ok_iff {c : Config} {op : Byte} {i : Instr} :
    decode c .command [op] = .ok i ↔ decodeCommand op = i := ⟨Except.ok.inj, congrArg Except.ok⟩

namespace Machine

/-- Settles O2: a write of `CMD` runs `decodeCommand` of the byte (`step_command`), which is what the byte decodes to. -/
theorem stepRunsTheDecodedCommand : Obligations.StepRunsTheDecodedCommand := by
  intro s v q i hw hq hi
  obtain rfl := decode_command_eq_ok_iff.1 hi
  exact ⟨decodeCommand_wf v, step_command hw hq⟩

/-- No host read shows the accesses to come. -/
theorem memRead_setHostQueue (s : State) (q : List HostAccess) (a : Byte) :
    memRead { s with hostQueue := q } a = memRead s a := readByte_setHostQueue s q (hostByte a)

/-- Settles O7: the step is `MemRead` once the access is taken (`step_read`), and taking it does not change what is read. -/
theorem hostReadHasNoSideEffect : Obligations.HostReadHasNoSideEffect := by
  intro s a q hw hq
  rw [step_read hw hq, hostRead, memRead_setHostQueue]

/-- A one clears a sticky bit, a zero keeps it (R32). -/
theorem and_not_eq_ite (b clear : Bool) : (b && !clear) = if clear then false else b := by
  cases clear with
  | false => exact Bool.and_true b
  | true => exact Bool.and_false b

theorem ackStatus_eq (v : Byte) (s : State) : ackStatus v s = { s with
    err := if v.getLsbD 0 then false else s.err
    errcode := if v.getLsbD 0 then 0x00 else s.errcode
    txto := if v.getLsbD 1 then false else s.txto
    bfail := if v.getLsbD 2 then false else s.bfail } := by
  simp only [ackStatus, and_not_eq_ite]

/-- Settles O11: neither address is that of `CMD`, so the step is `MemWrite` (`step_write`): the acknowledgement for
`STATUS`, the store of bit 0 for `CTRL`. -/
theorem statusAndCtrlWrites : Obligations.StatusAndCtrlWrites := by
  intro s v q hw
  refine ⟨fun hq => ?_, fun hq => ?_⟩
  · rw [step_write hw hq (by decide), memWrite_status, ackStatus_eq]
  · rw [step_write hw hq (by decide), memWrite_ctrl]

end Machine

end Sys2Proof
end

-- The three code spaces (30_encoding.md R111, R114 to R125): what decodes is what encodes.
section

namespace Sys2Proof

/-- `i` is an instruction of the space `sp`, and `bytes` are its bytes. -/
structure IsWordOf (c : Config) (sp : Space) (bytes : List Byte) (i : Instr) : Prop where
  wf : i.wf = true
  space : i.space = sp
  encode : encode c i = bytes

/-! ## Commands -/

/-- Every opcode is the byte of the command it decodes to (R111, R113). -/
theorem isWordOf_decodeCommand (c : Config) (op : Byte) : IsWordOf c .command [op] (decodeCommand op) := by
  by_cases hop : 0x0E ≤ op.toNat
  · rw [decodeCommand_illegal op hop]
    exact ⟨decide_eq_true hop, rfl, rfl⟩
  · obtain ⟨k, rfl⟩ : ∃ k : Fin 14, op = BitVec.ofNat 8 k.val := ⟨⟨op.toNat, Nat.lt_of_not_le hop⟩, by simp⟩
    fin_cases k <;> exact ⟨rfl, rfl, rfl⟩

/-! ## The state byte -/

/-- The state byte that selects an arm (R124, R125). -/
def TickArm.code : TickArm → Byte
  | .bindTx k => k.code
  | .txDone k => k.code ||| waitWrite
  | .listen k => k.code
  | .bind8 => bind8Code
  | .data k => k.code
  | .stopped k => k.code

theorem selectArm_code (arm : TickArm) : selectArm arm.code = some arm := by
  cases arm with
  | bind8 => rfl
  | bindTx k | txDone k | listen k | data k | stopped k => cases k <;> rfl

/-- Two state bytes never select one arm (R124). -/
theorem code_of_mem_selectArm : ∀ b : Byte, ∀ arm ∈ selectArm b, arm.code = b := by decide

theorem isWordOf_tickArm (c : Config) (arm : TickArm) : IsWordOf c .state [arm.code] arm.instr := by
  cases arm <;> exact ⟨rfl, rfl, rfl⟩

theorem decodeState_code (arm : TickArm) : decodeState arm.code = .ok arm.instr := by
  rw [decodeState, selectArm_code]

theorem isWordOf_of_decodeState {c : Config} {b : Byte} {i : Instr} (h : decodeState b = .ok i) :
    IsWordOf c .state [b] i := by
  unfold decodeState at h
  split at h
  · rename_i arm harm
    cases h
    rw [← code_of_mem_selectArm b arm harm]
    exact isWordOf_tickArm c arm
  · cases h

/-! ## Strobe frames -/

/-- The strobe frames and their codes, in the order of R118. -/
def strobeTable (c : Config) : List (Instr × Byte) :=
  [(.strobeSleep, c.strobeSleep), (.strobeIdle, c.strobeIdle), (.strobeStandby, c.strobeStandby),
    (.strobePll, c.strobePll), (.strobeRx, c.strobeRx), (.strobeTx, c.strobeTx),
    (.strobeRstWrptr, c.strobeRstWrptr), (.strobeRstRdptr, c.strobeRstRdptr)]

theorem strobeTable_map_snd (c : Config) : (strobeTable c).map Prod.snd = c.strobes := rfl

theorem isWordOf_of_mem_strobeTable {c : Config} : ∀ p ∈ strobeTable c, IsWordOf c .frame [p.2] p.1 := by
  simp only [strobeTable, List.forall_mem_cons]
  exact ⟨⟨rfl, rfl, rfl⟩, ⟨rfl, rfl, rfl⟩, ⟨rfl, rfl, rfl⟩, ⟨rfl, rfl, rfl⟩, ⟨rfl, rfl, rfl⟩, ⟨rfl, rfl, rfl⟩,
    ⟨rfl, rfl, rfl⟩, ⟨rfl, rfl, rfl⟩, List.forall_mem_nil _⟩

/-- The search for a code stops at a row of the table that has it. -/
theorem mem_strobeTable_of_decodeStrobe {c : Config} {b : Byte} {i : Instr} (h : decodeStrobe c b = .ok i) :
    (i, b) ∈ strobeTable c := by
  unfold decodeStrobe at h
  split_ifs at h with hb hb hb hb hb hb hb hb <;> cases h <;> subst hb <;> simp [strobeTable]

/-- The codes are distinct (R9), so the strobe found for a code is the only one in the table with that code. -/
theorem decodeFrame_of_mem_strobeTable {c : Config} (hw : c.wf = true) {i : Instr} {b : Byte}
    (h : (i, b) ∈ strobeTable c) : decodeFrame c [b] = .ok i := by
  obtain ⟨-, -, -, -, -, -, -, hnodup, hbit7, -⟩ := Config.wf_spec hw
  have hb : b ∈ c.strobes := List.mem_map_of_mem (f := Prod.snd) h
  obtain ⟨j, hj⟩ := Machine.decodeFrame_strobe c hw b hb
  have hfound : decodeStrobe c b = .ok j := by simpa only [decodeFrame, hbit7 b hb, if_true] using hj
  have hsame : (j, b) = (i, b) :=
    List.inj_on_of_nodup_map (strobeTable_map_snd c ▸ hnodup) (mem_strobeTable_of_decodeStrobe hfound) h rfl
  obtain rfl : j = i := congrArg Prod.fst hsame
  exact hj

/-! ## Register and burst frames -/

/-- A WRITE frame, but for the one that has the bytes of a burst (R116). -/
theorem decodeFrame_writeFrame (c : Config) (a : BitVec 6) (v : Byte) (ha : a.toNat ≤ Param.regAddrMax)
    (hfifo : a ≠ 0x05) : decodeFrame c [0b00#2 ++ a, v] = .ok (.spiWrite a v) := by
  obtain ⟨hbit7, hbit6, haddr⟩ := writeFirst a
  have hne : 0b00#2 ++ a ≠ Param.fifoAddr := fun h => hfifo (by rw [← haddr, h]; rfl)
  simp only [decodeFrame, decodeWrite, hbit7, hbit6, haddr, if_neg hne, if_neg (Nat.not_lt.2 ha)]
  simp

/-- The fields of a READ frame are its bytes (R115). -/
theorem isWordOf_of_decodeRead {c : Config} {b : Byte} {rest : List Byte} {i : Instr} (hbit7 : b.getLsbD 7 = false)
    (hbit6 : b.getLsbD 6 = true) (h : decodeRead c b rest = .ok i) : IsWordOf c .frame (b :: rest) i := by
  unfold decodeRead at h
  split at h
  · split_ifs at h with hmax hdummy
    cases h
    subst hdummy
    exact ⟨decide_eq_true (Nat.not_lt.1 hmax), rfl, by rw [encode, readFirst_of_bits b hbit7 hbit6]⟩
  · cases h

/-- The fields of a frame that writes are its bytes: a burst, a WRITE or an ID frame (R116, R117, R119). -/
theorem isWordOf_of_decodeWrite {c : Config} {b : Byte} {rest : List Byte} {i : Instr} (hbit7 : b.getLsbD 7 = false)
    (hbit6 : b.getLsbD 6 = false) (h : decodeWrite b rest = .ok i) : IsWordOf c .frame (b :: rest) i := by
  unfold decodeWrite at h
  split at h
  · rename_i hfifo
    split_ifs at h with hlen
    cases h
    exact ⟨decide_eq_true hlen, rfl, by rw [encode, hfifo]⟩
  · split at h
    · split_ifs at h with hmax
      cases h
      exact ⟨decide_eq_true (Nat.not_lt.1 hmax), rfl, by rw [encode, writeFirst_of_bits b hbit7 hbit6]⟩
    · split_ifs at h with hid
      cases h
      exact ⟨rfl, rfl, by rw [encode, Machine.be32_fromBe32, hid]⟩
    · cases h

/-- A frame is told by bits 7:6 of its first byte (R120): a strobe, a READ, or a frame that writes. -/
theorem isWordOf_of_decodeFrame {c : Config} {bytes : List Byte} {i : Instr} (h : decodeFrame c bytes = .ok i) :
    IsWordOf c .frame bytes i := by
  unfold decodeFrame at h
  split at h
  · cases h
  · split_ifs at h with hbit7 hbit6
    · split at h
      · exact isWordOf_of_mem_strobeTable _ (mem_strobeTable_of_decodeStrobe h)
      · cases h
    · exact isWordOf_of_decodeRead (Bool.eq_false_iff.2 hbit7) hbit6 h
    · exact isWordOf_of_decodeWrite (Bool.eq_false_iff.2 hbit7) (Bool.eq_false_iff.2 hbit6) h

/-! ## All three spaces -/

theorem isWordOf_of_decode {c : Config} {sp : Space} {bytes : List Byte} {i : Instr} (h : decode c sp bytes = .ok i) :
    IsWordOf c sp bytes i := by
  cases sp with
  | command =>
    match bytes, h with
    | [op], rfl => exact isWordOf_decodeCommand c op
  | frame => exact isWordOf_of_decodeFrame h
  | state =>
    match bytes, h with
    | [_], h => exact isWordOf_of_decodeState h

/-- Settles O17, decoder by decoder (`isWordOf_of_decode`). -/
theorem encodeOfDecodeIsTheBytes : Obligations.EncodeOfDecodeIsTheBytes := fun _ _ _ _ h =>
  have word := isWordOf_of_decode h
  ⟨word.wf, word.space, word.encode⟩

/-- Each space's decoder reads back what `encode` wrote, but for the WRITE that has the bytes of a burst (R116). -/
theorem decode_encode {c : Config} {i : Instr} (hc : c.wf = true) (hi : i.wf = true)
    (hfifo : ∀ v, i ≠ .spiWrite 0x05 v) : decode c i.space (encode c i) = .ok i := by
  cases i with
  | nop | regRead | regWrite | strobe | setId | fifoWrite | fifoRead | scan | buildBind | buildData | bindStart | tick
  | bindSeq | abort => rfl
  | illegalOpcode op => exact congrArg Except.ok (decodeCommand_illegal op (of_decide_eq_true hi))
  | spiRead a =>
    rw [encode, ← Machine.addrByte_or_readFlag]
    exact Machine.decodeFrame_readFrame c a (of_decide_eq_true hi)
  | spiWrite a v => exact decodeFrame_writeFrame c a v (of_decide_eq_true hi) fun h => hfifo v (h ▸ rfl)
  | spiBurst data => exact Machine.decodeFrame_burst c data (of_decide_eq_true hi)
  | spiId id => exact Machine.decodeFrame_id c id
  | strobeSleep | strobeIdle | strobeStandby | strobePll | strobeRx | strobeTx | strobeRstWrptr | strobeRstRdptr =>
    exact decodeFrame_of_mem_strobeTable hc (by simp [strobeTable])
  | tickBindTx k => exact decodeState_code (.bindTx k)
  | tickTxDone k => exact decodeState_code (.txDone k)
  | tickListen k => exact decodeState_code (.listen k)
  | tickBind8 => exact decodeState_code .bind8
  | tickData k => exact decodeState_code (.data k)
  | tickBadState k => exact decodeState_code (.stopped k)

/-- Settles O18: each word is closed, so the decoder evaluates on it. -/
theorem wordsOfTheTablesDecode : Obligations.WordsOfTheTablesDecode :=
  ⟨rfl, rfl, rfl, rfl, rfl, rfl, rfl, rfl, rfl, rfl, rfl⟩

end Sys2Proof
end

-- The SPI frames as instructions (30_encoding.md R115 to R122): the one frame each sends, and what it records.
section

namespace Sys2Proof.Machine

/-- A register frame's address is in range when its six bits are (R159, R121). -/
theorem validAddr_addrByte_iff (a : BitVec 6) : validAddr (addrByte a) = true ↔ a.toNat ≤ 0x32 := by
  rw [validAddr, decide_eq_true_iff, toNat_addrByte]; rfl

/-! ## Frames that are sent -/

theorem exec_spiRead {a : BitVec 6} (ha : a.toNat ≤ 0x32) (s : State) :
    exec (.spiRead a) s = .next (xfer [0b01#2 ++ a, s.config.dummyByte] s) := by
  rw [← addrByte_or_readFlag]
  exact if_pos ((validAddr_addrByte_iff a).2 ha)

theorem exec_spiWrite {a : BitVec 6} (ha : a.toNat ≤ 0x32) (v : Byte) (s : State) :
    exec (.spiWrite a v) s = .next (xfer [0b00#2 ++ a, v] s) := by
  rw [← addrByte_eq, ← or_writeFlag (addrByte a)]
  exact if_pos ((validAddr_addrByte_iff a).2 ha)

theorem exec_spiBurst {data : List Byte} (hlen : 1 ≤ data.length ∧ data.length ≤ 16) (s : State) :
    exec (.spiBurst data) s = .next (xfer (0x05 :: data) s) := if_pos hlen

/-- The WRITE frame of `FIFO_ADDR` and the burst of one byte are one frame (R116). -/
theorem exec_spiWrite_fifoAddr (v : Byte) (s : State) : exec (.spiWrite 0x05 v) s = exec (.spiBurst [v]) s :=
  calc exec (.spiWrite 0x05 v) s
    _ = .next (xfer [0x05, v] s) := exec_spiWrite (by decide) v s
    _ = exec (.spiBurst [v]) s := (exec_spiBurst (data := [v]) (by simp) s).symm

theorem exec_of_mem_strobeTable {s : State} : ∀ p ∈ strobeTable s.config, exec p.1 s = .next (strobe p.2 s) := by
  simp only [strobeTable, List.forall_mem_cons]
  exact ⟨rfl, rfl, rfl, rfl, rfl, rfl, rfl, rfl, List.forall_mem_nil _⟩

/-- Settles O19: one frame of two bytes (`exec_spiRead`). -/
theorem readFrameIsSent : Obligations.ReadFrameIsSent := fun _ s ha => exec_spiRead ha s

/-- Settles O20: one frame of two bytes (`exec_spiWrite`), which for `FIFO_ADDR` is the burst's. -/
theorem writeFrameIsSent : Obligations.WriteFrameIsSent :=
  ⟨fun _ v s ha => exec_spiWrite ha v s, exec_spiWrite_fifoAddr⟩

/-- Settles O21: one frame of `FIFO_ADDR` and the data (`exec_spiBurst`). -/
theorem burstFrameIsSent : Obligations.BurstFrameIsSent := fun _ s hmin hmax => exec_spiBurst ⟨hmin, hmax⟩ s

/-- Settles O22: the frame and its record are `SetId`'s, whose five answers are written out. -/
theorem idFrameIsSentAndRecorded : Obligations.IdFrameIsSentAndRecorded := fun _ _ => rfl

/-- Settles O23: every row of the strobe table is `Strobe` of its code (`exec_of_mem_strobeTable`). -/
theorem strobeFramesAreSentAndRecorded : Obligations.StrobeFramesAreSentAndRecorded := fun _ i code h =>
  exec_of_mem_strobeTable (i, code) h

/-! ## Frames that are not -/

/-- Settles O24: neither guard holds, that of the address (R115, R116) nor that of the length (R117). -/
theorem framesNeverSentAreRefused : Obligations.FramesNeverSentAreRefused := by
  intro s
  have haddr {a : BitVec 6} (ha : 0x33 ≤ a.toNat) : ¬ validAddr (addrByte a) = true := fun h =>
    Nat.not_lt.2 ((validAddr_addrByte_iff a).1 h) ha
  refine ⟨fun a ha => if_neg (haddr ha), fun a v ha => if_neg (haddr ha), fun data hdata => if_neg fun hlen => ?_⟩
  obtain ⟨hmin, hmax⟩ := hlen
  obtain rfl | hlong := hdata
  · exact Nat.not_succ_le_zero 0 hmin
  · exact Nat.not_lt.2 hmax hlong

/-- Settles O16: the bytes decode to the instruction (`decode_encode`), but for the WRITE frame of `FIFO_ADDR`, whose
bytes are those of a burst (`decodeFrame_burst`) that does the same. -/
theorem decodeOfEncodeIsTheInstruction : Obligations.DecodeOfEncodeIsTheInstruction := by
  intro c i hc hi
  refine ⟨decode_encode hc hi, ?_⟩
  rintro v rfl
  exact ⟨decodeFrame_burst c [v] (by simp [Param.fifoDepth]), exec_spiWrite_fifoAddr v⟩

/-! ## Commands and arms by their bytes -/

/-- Settles O1: the step is the meaning of the decoded opcode (`step_command`), for each row of R111 the command that the
opcode names, and beyond the last row the illegal opcode (`decodeCommand_illegal`). -/
theorem writeOfCmdExecutesItsOpcode : Obligations.WriteOfCmdExecutesItsOpcode := by
  intro s v q hw hq
  have row (op : Byte) (h : v = op) : step s = exec (decodeCommand op) { s with hostQueue := q, cmd := v } :=
    h ▸ step_command hw hq
  refine ⟨row 0x00, row 0x01, row 0x02, row 0x03, row 0x04, row 0x05, row 0x06, row 0x07, row 0x08, row 0x09, row 0x0A,
    row 0x0B, row 0x0C, row 0x0D, fun hillegal => ?_⟩
  rw [row v rfl, decodeCommand_illegal v hillegal]
  rfl

/-- `TICK` in the state of an arm means what the arm's own instruction means (R125, R246). -/
theorem exec_tick_eq_exec_instr (arm : TickArm) {s : State} (hs : s.state = arm.code) :
    exec .tick s = exec arm.instr s :=
  (exec_tick hs (selectArm_code arm)).trans (by cases arm <;> rfl)

/-- A state byte that no rule writes is the model's fault (R331). -/
theorem exec_tick_unreachable {s : State} (hs : s.state ∉ reachableStates) :
    exec .tick s = .fault .unreachableState := by
  have hnone : selectArm s.state = none := Option.not_isSome_iff_eq_none.1 fun h => hs ((selectArm_isSome s.state).1 h)
  simp only [exec, execTick, hnone]

/-- Settles O3: row by row of R125, the state byte is the code of the arm named there. -/
theorem tickRunsTheArmOfTheStateByte : Obligations.TickRunsTheArmOfTheStateByte := fun _ =>
  have row (arm : TickArm) {s : State} := exec_tick_eq_exec_instr arm (s := s)
  ⟨row (.bindTx .bind1), row (.bindTx .bind3), row (.bindTx .bind5), row (.bindTx .bind7),
    row (.txDone .bind1), row (.txDone .bind3), row (.txDone .bind5), row (.txDone .bind7),
    row (.listen .bind2), row (.listen .bind4), row (.listen .bind6), row .bind8,
    row (.data .data1), row (.data .data2), row (.data .data3), row (.data .data4), row (.data .data5),
    row (.stopped .bindFailed), row (.stopped .idle), exec_tick_unreachable⟩

end Sys2Proof.Machine
end

-- The transport commands (40_transport.md R155 to R165): the operand each checks, and what it sends.
section

namespace Sys2Proof.Machine

/-! ## Operand checks (R159) -/

theorem validAddr_iff (a : Byte) : validAddr a = true ↔ a.toNat ≤ 0x32 := decide_eq_true_iff

theorem validLen_iff (n : Byte) : validLen n = true ↔ 1 ≤ n.toNat ∧ n.toNat ≤ 16 := decide_eq_true_iff

theorem validStrobe_iff (c : Config) (b : Byte) : validStrobe c b = true ↔ b ∈ c.strobes := decide_eq_true_iff

/-! ## Polls -/

/-- A poll goes as the mode bytes say it does: the bytes settle how many reads are made and how they end (R157). -/
theorem pollBusy_of_polled {k p : Nat} {late : Bool} {s : State}
    (h : Polled s.config (fun i => misoAt s (2 * i + 1)) k p late) :
    pollBusy k s = (if late then .timeout else .clear, sendAll (List.replicate p (pollFrame s.config)) s) := by
  obtain ⟨q, late', h', heq⟩ := pollBusy_spec k s
  obtain ⟨rfl, rfl⟩ := h.unique h'
  exact heq

/-- Settles O31: the mode bytes are those of `Polled`, which counts them from 0, and settle the poll
(`pollBusy_of_polled`). -/
theorem pollReadsUntilTheFirstClearBusyBit : Obligations.PollReadsUntilTheFirstClearBusyBit := by
  intro k s _
  refine ⟨fun n hmin hmax hclear hbusy => ?_, fun hbusy => ?_⟩
  · have hlast : 2 * (n - 1) + 1 = 2 * n - 1 := by omega
    have hpolled : Polled s.config (fun i => misoAt s (2 * i + 1)) k n false :=
      ⟨hmin, hmax, fun i hi => hbusy (i + 1) (Nat.le_add_left 1 i) hi, by simpa only [hlast] using hclear⟩
    exact pollBusy_of_polled hpolled
  · have hpolled : Polled s.config (fun i => misoAt s (2 * i + 1)) k k true :=
      ⟨rfl, fun i hi => hbusy (i + 1) (Nat.le_add_left 1 i) hi⟩
    exact pollBusy_of_polled hpolled

/-! ## The FIFO -/

/-- A length out of range: the other side of `validLen_iff` (R159). -/
theorem not_validLen {n : Byte} (h : n.toNat = 0 ∨ 16 < n.toNat) : ¬ validLen n = true := by
  rw [validLen_iff]
  omega

/-- Settles O29: on a length in range the command is `WritePacket` (`writePacket_wrote`). -/
theorem fifoWriteTransmitsThePacket : Obligations.FifoWriteTransmitsThePacket := fun s =>
  ⟨fun hlen => ⟨_, if_pos ((validLen_iff _).2 hlen), writePacket_wrote _ s.arg1 s hlen.2⟩,
    fun hlen => if_neg (not_validLen hlen)⟩

/-- Settles O30: on a length in range the command is `ReadPacket` (`readPacket_readBack`). -/
theorem fifoReadFillsTheReplyBuffer : Obligations.FifoReadFillsTheReplyBuffer := fun s =>
  ⟨fun hlen => ⟨_, if_pos ((validLen_iff _).2 hlen), readPacket_readBack _ s⟩,
    fun hlen => if_neg (not_validLen hlen)⟩

/-! ## Single frames -/

/-- An address out of range: the other side of `validAddr_iff` (R159). -/
theorem not_validAddr {a : Byte} (h : 0x32 < a.toNat) : ¬ validAddr a = true := fun hv =>
  Nat.not_lt.2 ((validAddr_iff a).1 hv) h

/-- Settles O25: on an address in range the command is `RegRead`, whose value goes to `RDATA`. -/
theorem regReadLatchesTheDrawnByte : Obligations.RegReadLatchesTheDrawnByte := fun s =>
  ⟨fun ha => if_pos ((validAddr_iff s.arg0).2 ha), fun ha => if_neg (not_validAddr ha)⟩

/-- Settles O26: on an address in range the command is `RegWrite`, whose flag leaves the address byte as it is
(`or_writeFlag`). -/
theorem regWriteSendsTheDataByte : Obligations.RegWriteSendsTheDataByte := fun s =>
  have hframe : regWrite s.arg0 s.arg1 s = xfer [s.arg0, s.arg1] s := by rw [regWrite, or_writeFlag]
  ⟨fun ha => (if_pos ((validAddr_iff s.arg0).2 ha)).trans (congrArg Host.Outcome.next hframe),
    fun ha => if_neg (not_validAddr ha)⟩

/-- Settles O27: the command is `Strobe` of the byte when that is one of the eight codes. -/
theorem strobeSendsItsCode : Obligations.StrobeSendsItsCode := fun s =>
  have hiff := validStrobe_iff s.config s.arg0
  ⟨fun hmem => if_pos (hiff.2 hmem), fun hmem => if_neg fun h => hmem (hiff.1 h)⟩

/-- Settles O28: the frame is the ID frame of `DEV_ID` (`idFrameIsSentAndRecorded`), and the ID recorded is the one
`DEV_ID` holds. -/
theorem setIdSendsTheDeviceId : Obligations.SetIdSendsTheDeviceId := fun s => idFrameIsSentAndRecorded s.devId s

end Sys2Proof.Machine
end

-- The packet builder (41_packets.md R191 to R198): a build seals a packet in `TXBUF` and changes nothing else.
section

namespace Sys2Proof.Machine

/-! ## The commands -/

/-- `BUILD_BIND` is `BuildBind` of `ARG0` (R196). -/
theorem exec_buildBind (s : State) : exec .buildBind s = .next (buildBind s.arg0 s) := rfl

/-- `BUILD_DATA` is `BuildData` (R197). -/
theorem exec_buildData (s : State) : exec .buildData s = .next (buildData s) := rfl

/-! ## What a build leaves in `TXBUF` -/

theorem buildBind_txbuf (lvl : Byte) (s : State) :
    (buildBind lvl s).txbuf = withChecksum (bindPacket s.config lvl s.channel s.sessionId) := rfl

theorem buildData_txbuf (s : State) : (buildData s).txbuf =
    withChecksum (dataPacket s.config s.throttle s.rudder s.elevator s.aileron s.flags) := rfl

theorem buildBind_txbuf_toList (lvl : Byte) (s : State) :
    (buildBind lvl s).txbuf.toList = withCks (bindBytes s.config lvl s.channel s.sessionId) := by
  rw [buildBind_txbuf, withChecksum_toList, bindPacket_take]

theorem buildData_txbuf_toList (s : State) : (buildData s).txbuf.toList = withCks (dataBytes s) := by
  rw [buildData_txbuf, withChecksum_toList, dataPacket_take]

/-- Every build ends by sealing its packet, and what is sealed sums to 0 modulo 256 (R192), whatever stood in byte 15. -/
theorem putTx_txbuf_sum (p : Packet) (s : State) : ((putTx p s).txbuf.toList.map BitVec.toNat).sum % 256 = 0 := by
  rw [putTx_txbuf, withChecksum_toList, withCks_sum]

/-! ## The statements -/

/-- Settles O33: the command is `BuildData`, whose packet holds the listed bytes and their checksum
(`buildData_txbuf_toList`). -/
theorem buildDataWritesTheFlightControlPacket : Obligations.BuildDataWritesTheFlightControlPacket := fun s =>
  ⟨(buildData s).txbuf, buildData_txbuf_toList s, exec_buildData s⟩

/-- Settles O34: each of the three packets is sealed last, a round's after its number is put in (`putTx_txbuf_sum`). -/
theorem builtPacketsSumToZero : Obligations.BuiltPacketsSumToZero := fun _ _ _ =>
  ⟨putTx_txbuf_sum _ _, putTx_txbuf_sum _ _, putTx_txbuf_sum _ _⟩

/-- Settles O32: the command is `BuildBind` of `ARG0`, whose packet holds the listed bytes and their checksum
(`buildBind_txbuf_toList`). -/
theorem buildBindWritesTheBindPacket : Obligations.BuildBindWritesTheBindPacket := fun s =>
  ⟨(buildBind s.arg0 s).txbuf, buildBind_txbuf_toList s.arg0 s, exec_buildBind s⟩

/-- Settles O35: the packets are functions of what the two states agree on (`buildData_txbuf`, `buildBind_txbuf`). -/
theorem buildsAreIdempotent : Obligations.BuildsAreIdempotent := by
  intro s t u v hconfig
  refine ⟨fun hu hv hthrottle hrudder helevator haileron hflags => ?_, fun hu hv harg0 hchannel hsession => ?_⟩
  · obtain rfl : buildData s = u := Host.Outcome.next.inj hu
    obtain rfl : buildData t = v := Host.Outcome.next.inj hv
    rw [buildData_txbuf, buildData_txbuf, hconfig, hthrottle, hrudder, helevator, haileron, hflags]
  · obtain rfl : buildBind s.arg0 s = u := Host.Outcome.next.inj hu
    obtain rfl : buildBind t.arg0 t = v := Host.Outcome.next.inj hv
    rw [buildBind_txbuf, buildBind_txbuf, hconfig, harg0, hchannel, hsession]

end Sys2Proof.Machine
end

-- The channel selector (42_channel_select.md R222 to R224): what a scan sends and sums, and the channel it picks.
section

namespace Sys2Proof.Machine

/-! ## The choice -/

/-- One step of the choice: the later index is taken on a strictly greater sum only (R223). -/
def pickGreater (sums : Vector Half 12) (best i : Fin 12) : Fin 12 := if sums[best] < sums[i] then i else best

theorem bestChannel_eq_foldl (sums : Vector Half 12) :
    bestChannel sums = channelIndices.foldl (pickGreater sums) 0 := rfl

/-- A fold of `pickGreater` is the library's `List.argmax`, which keeps the first index of a greatest value. -/
theorem argmax_cons_eq_foldl_pickGreater (sums : Vector Half 12) (b : Fin 12) (l : List (Fin 12)) :
    (b :: l).argmax (fun i => sums[i].toNat) = some (l.foldl (pickGreater sums) b) := by
  induction l using List.reverseRecOn with
  | nil => rfl
  | append_singleton l i ih =>
    rw [← List.cons_append, List.argmax_concat, ih, List.foldl_append, List.foldl_cons, List.foldl_nil, pickGreater,
      apply_ite some]
    rfl

/-- Comparing index 0 with itself takes nothing, so the choice is an argmax over all the channels (R223). -/
theorem bestChannel_mem_argmax (sums : Vector Half 12) :
    bestChannel sums ∈ (List.finRange 12).argmax fun i => sums[i].toNat := by
  have hself : pickGreater sums 0 0 = 0 := ite_self 0
  rw [bestChannel_eq_foldl, channelIndices, List.foldl_cons, hself]
  exact argmax_cons_eq_foldl_pickGreater sums 0 _

/-- No channel has a greater sum than the chosen one. -/
theorem sum_le_sum_bestChannel (sums : Vector Half 12) (i : Fin 12) : sums[i] ≤ sums[bestChannel sums] := by
  have hle := List.le_of_mem_argmax (List.mem_finRange i) (bestChannel_mem_argmax sums)
  exact BitVec.le_def.2 hle

/-- A channel whose sum reaches that of the chosen one does not stand before it. -/
theorem bestChannel_le_of_sum_le {sums : Vector Half 12} {i : Fin 12} (h : sums[bestChannel sums] ≤ sums[i]) :
    bestChannel sums ≤ i := by
  have hidx := List.index_of_argmax (bestChannel_mem_argmax sums) (List.mem_finRange i) (BitVec.le_def.1 h)
  rwa [List.idxOf_finRange, List.idxOf_finRange] at hidx

/-- Every channel before the chosen one has a smaller sum. -/
theorem sum_lt_of_lt_bestChannel {sums : Vector Half 12} {i : Fin 12} (h : i < bestChannel sums) :
    sums[i] < sums[bestChannel sums] :=
  BitVec.not_le.1 fun hle => absurd h (bestChannel_le_of_sum_le hle).not_gt

/-- Settles O37: the chosen index has a greatest sum (`sum_le_sum_bestChannel`) and stands before every other such index
(`bestChannel_le_of_sum_le`), so before index 0 when all sums are equal. -/
theorem selectionKeepsTheLowestMaximalIndex : Obligations.SelectionKeepsTheLowestMaximalIndex := fun sums =>
  ⟨sum_le_sum_bestChannel sums, fun _ hmax => bestChannel_le_of_sum_le (hmax _),
    fun heq => Fin.le_zero_iff.1 (bestChannel_le_of_sum_le (BitVec.le_of_eq (heq _ 0)))⟩

/-! ## The scan -/

/-- The sums a scan that starts at `s` stores in `RSSI_SUM` (R222). -/
def scanSums (s : State) : Vector Half 12 := Vector.ofFn fun i => BitVec.ofNat 16 (channelSum s i.val)

/-- R9's bound on `RSSI_SAMPLES` keeps a sum within 16 bits. -/
theorem scanSums_toNat {s : State} (hw : s.config.wf = true) (i : Fin 12) :
    (scanSums s)[i].toNat = channelSum s i.val := by
  obtain ⟨-, -, ⟨-, hsamples⟩, -⟩ := Config.wf_spec hw
  have hsum : channelSum s i.val < 2 ^ 16 := by
    have := channelSum_le s i.val
    omega
  rw [scanSums, Fin.getElem_fin, Vector.getElem_ofFn, BitVec.toNat_ofNat, Nat.mod_eq_of_lt hsum]

/-- The scan of all twelve channels, before the choice (R224). -/
theorem foldl_scanChannel (s : State) :
    channelIndices.foldl scanChannel s = withSums s.config.strobeRx (scanSums s)
      (sendAll ((List.finRange 12).flatMap (channelFrames s.config)) s) := by
  simpa [scanSums, List.take_of_length_le, channelIndices_eq] using scanChannels_spec 12 le_rfl s

/-- The choice falls on the sums the scan of the channels has stored (R224). -/
theorem selectChannel_withSums (l : Byte) (sums : Vector Half 12) (u : State) :
    selectChannel (withSums l sums u) = setScan sums (BitVec.ofNat 8 (bestChannel sums).val)
      u.config.channelTable[bestChannel sums] (withSums l sums u) := rfl

/-- A scan writes `LAST_STROBE`, `RSSI_SUM`, `BEST_IDX` and `CHANNEL` over what its frames leave (R224). -/
theorem setScan_withSums (l best ch : Byte) (sums : Vector Half 12) (u : State) :
    setScan sums best ch (withSums l sums u) =
      { u with lastStrobe := l, rssiSum := sums, bestIdx := best, channel := ch } := rfl

/-- `SCAN` as one state: the frames of every channel in order, the sums they draw, and the choice (R224). -/
theorem exec_scan (s : State) :
    exec .scan s = .next (setScan (scanSums s) (BitVec.ofNat 8 (bestChannel (scanSums s)).val)
      s.config.channelTable[bestChannel (scanSums s)]
      (withSums s.config.strobeRx (scanSums s) (sendAll ((List.finRange 12).flatMap (channelFrames s.config)) s))) := by
  have harm : exec .scan s = execScan s := rfl
  rw [harm, execScan, foldl_scanChannel, selectChannel_withSums, sendAll_config]

/-- Settles O36: the state is that of `exec_scan`, whose sums fit 16 bits (`scanSums_toNat`), and the channel is
`bestChannel` of them. -/
theorem scanSumsEveryChannelAndPicksOne : Obligations.ScanSumsEveryChannelAndPicksOne := fun s hw =>
  ⟨bestChannel (scanSums s), _, exec_scan s, setScan_withSums _ _ _ _ _, scanSums_toNat hw,
    sum_le_sum_bestChannel (scanSums s), fun _ => sum_lt_of_lt_bestChannel⟩

end Sys2Proof.Machine
end

-- The arms of the tick-driven bind (43_bind.md R241 to R260): what each leaves, as one state.
section

namespace Sys2Proof.Machine

/-! ## The control commands -/

/-- Settles O38: each of the four meanings is one update of the registers it names. -/
theorem controlCommandsWriteOnlyTheirRegisters : Obligations.ControlCommandsWriteOnlyTheirRegisters := fun _ _ =>
  ⟨rfl, rfl, rfl, rfl⟩

/-- Settles O4: a reachable byte other than those of `BIND_FAILED` and `IDLE` selects an arm that is not refused, and such
an arm writes only what `SessionMoved` allows. -/
theorem tickCompletesInEveryActiveState : Obligations.TickCompletesInEveryActiveState := by
  intro s hreach hfailed hidle
  obtain ⟨arm, harm⟩ := Option.isSome_iff_exists.1 ((selectArm_isSome s.state).2 hreach)
  have hcode : arm.code = s.state := code_of_mem_selectArm s.state arm harm
  have hactive : ∀ k, arm ≠ .stopped k := by
    rintro k rfl
    cases k with
    | bindFailed => exact hfailed hcode.symm
    | idle => exact hidle hcode.symm
  obtain ⟨u, st, r, d, b, q, hmoved, hround, hst, hstIdle, heq⟩ := sessionMoved_runArm arm s hactive
  refine ⟨_, exec_tick rfl harm, ?_⟩
  rw [heq]
  exact ⟨hmoved.err, hmoved.errcode, hst, hstIdle, hmoved.rdata, hmoved.channel, hround, hmoved.rssiSum, hmoved.bestIdx⟩

/-! ## The transmit arm (R250) -/

/-- `s` with the bind packet of a level in `TXBUF` and the transceiver put in standby, ready to transmit (R250). -/
def readyToSend (lvl : Byte) (s : State) : State :=
  { sendAll [[s.config.strobeStandby]] s with
    lastStrobe := s.config.strobeStandby
    txbuf := withChecksum (bindPacket s.config lvl s.channel s.sessionId) }

/-- Everything the transmit arm can do (R250). -/
theorem tickBindTx_spec (k : BindTx) (s : State) :
    ∃ t, Wrote 16 s.channel (readyToSend (level k) s) t ∧
      tickBindTx k s = { t with state := k.code ||| waitWrite, delayUs := s.config.dlyBindTx } := by
  generalize ht : writePacket 16 s.channel (readyToSend (level k) s) = t
  have hconfig : t.config = s.config := ht ▸ (moved_writePacket 16 s.channel _ (by decide)).config
  have harm : tickBindTx k s = goto (k.code ||| waitWrite) t.config.dlyBindTx t := by
    rw [← ht]
    rfl
  refine ⟨t, ht ▸ writePacket_wrote 16 s.channel _ le_rfl, ?_⟩
  rw [← hconfig]
  exact harm

/-- Settles O40: the arm is that of `tickBindTx_spec`, and each row of the list gives a transmit state, its level and its
state bytes. -/
theorem transmitArmSendsTheBindPacket : Obligations.TransmitArmSendsTheBindPacket := by
  intro s k lvl before after hrow
  obtain ⟨rfl, rfl, rfl⟩ : lvl = level k ∧ before = k.code ∧ after = k.code ||| waitWrite := by
    simp only [List.mem_cons, List.not_mem_nil, or_false, Prod.mk.injEq] at hrow
    obtain ⟨rfl, rfl, rfl, rfl⟩ | ⟨rfl, rfl, rfl, rfl⟩ | ⟨rfl, rfl, rfl, rfl⟩ | ⟨rfl, rfl, rfl, rfl⟩ := hrow <;>
      exact ⟨rfl, rfl, rfl⟩
  obtain ⟨t, hwrote, heq⟩ := tickBindTx_spec k s
  exact ⟨_, t, buildBind_txbuf_toList (level k) s, hwrote, congrArg Host.Outcome.next heq,
    exec_tick_eq_exec_instr (.bindTx k)⟩

/-! ## The completion arm (R252) -/

/-- Everything the completion arm can do (R252): it advances however its poll ended. -/
theorem tickTxDone_spec (k : BindTx) (s : State) :
    ∃ p late, Polled s.config (fun i => misoAt s (2 * i + 1)) s.config.txdonePolls p late ∧
      tickTxDone k s =
        { sendAll (List.replicate p (pollFrame s.config) ++ [[s.config.strobeRx]]) s with
          txto := s.txto || late
          txen := false
          rxen := true
          lastStrobe := s.config.strobeRx
          state := k.code + 1
          delayUs := s.config.dlyTxdone } := by
  obtain ⟨p, late, hpolled, heq⟩ := pollCompletion_spec s.config.txdonePolls s
  refine ⟨p, late, hpolled, ?_⟩
  rw [tickTxDone, heq, sendAll_append]
  simp only [goto, strobe_config, setPins_config, sendAll_config]
  rfl

/-- Settles O41: the arm is that of `tickTxDone_spec`, and each row of the list gives a transmit state and its state
bytes. -/
theorem completionArmSwitchesToReceive : Obligations.CompletionArmSwitchesToReceive := by
  intro s k before after _ hrow
  obtain ⟨rfl, rfl⟩ : before = k.code ||| waitWrite ∧ after = k.code + 1 := by
    simp only [List.mem_cons, List.not_mem_nil, or_false, Prod.mk.injEq] at hrow
    obtain ⟨rfl, rfl, rfl⟩ | ⟨rfl, rfl, rfl⟩ | ⟨rfl, rfl, rfl⟩ | ⟨rfl, rfl, rfl⟩ := hrow <;> exact ⟨rfl, rfl⟩
  obtain ⟨p, late, hpolled, heq⟩ := tickTxDone_spec k s
  exact ⟨p, late, hpolled, congrArg Host.Outcome.next heq, exec_tick_eq_exec_instr (.txDone k)⟩

/-! ## A failed listen (R256) -/

/-- The count of R256 as a number: it saturates, so that it fits its byte. -/
theorem toNat_satSucc (b : Byte) : (satSucc b).toNat = min (b.toNat + 1) 255 := by
  rw [satSucc, BitVec.toNat_ofNat, Nat.mod_eq_of_lt (by omega)]

/-- Settles O42: the branch of `bindFailure` is taken on the count it has just stored (`toNat_satSucc`). -/
theorem failedListenRestartsOrGivesUp : Obligations.FailedListenRestartsOrGivesUp := by
  rintro s target dly n rfl
  refine ⟨fun hbelow => if_neg ?_, fun hbound hreached => if_pos ?_⟩ <;>
    simp only [toNat_satSucc]
  · omega
  · exact ⟨hbound, hreached⟩

theorem bindFailure_of_unbounded {s : State} (h : s.config.bindMaxRestarts = 0) (target : BindTx) (dly : Half) :
    bindFailure target dly s = { s with restarts := satSucc s.restarts, state := target.code, delayUs := dly } :=
  (failedListenRestartsOrGivesUp s target dly _ rfl).1 (.inl h)

/-- Whether it restarts or gives up, a failed listen keeps the parameters and `TXCOUNT` (R256). -/
theorem bindFailure_config_txcount (target : BindTx) (dly : Half) (s : State) :
    (bindFailure target dly s).config = s.config ∧ (bindFailure target dly s).txcount = s.txcount := by
  dsimp only [bindFailure]
  split
  · exact ⟨rfl, rfl⟩
  · exact ⟨rfl, rfl⟩

/-! ## The listen arm (R254) -/

theorem tickListen_of_busy (k : BindListen) {s : State} (h : busy s.config (misoAt s 1) = true) :
    tickListen k s = bindFailure .bind1 s.config.dlyListenFail (sendAll [pollFrame s.config] s) := if_pos h

theorem programId_config (k : BindListen) (t : State) : (programId k t).config = t.config := by
  unfold programId
  split
  · exact setId_config _ t
  · rfl

/-- A reply `t` is read back, its ID programmed at `BIND_4`, and the bind advances (R254). -/
theorem tickListen_of_clear (k : BindListen) {s t : State} (h : busy s.config (misoAt s 1) = false)
    (ht : t = readPacket 16 (sendAll [pollFrame s.config] s)) :
    tickListen k s = goto (k.code + 1) s.config.dlyListenOk (programId k t) := by
  have hconfig : (programId k t).config = s.config := by
    rw [programId_config, ht, (moved_readPacket 16 _).config, sendAll_config]
  have harm : tickListen k s = goto (k.code + 1) (programId k t).config.dlyListenOk (programId k t) :=
    ht ▸ if_neg (Bool.eq_false_iff.1 h)
  rw [harm, hconfig]

/-- The ID frame of a reply carries its bytes 2..5 as they stand in `RXBUF` (R87 c, R153). -/
theorem setId_replyId (t : State) :
    setId (replyId t) t =
      { sendAll [[0x06, t.rxbuf[2], t.rxbuf[3], t.rxbuf[4], t.rxbuf[5]]] t with
        devId := t.rxbuf[2] ++ t.rxbuf[3] ++ t.rxbuf[4] ++ t.rxbuf[5] } := by
  rw [setId, replyId, be32_fromBe32]
  rfl

/-- Settles O43: a busy mode register fails the listen (`tickListen_of_busy`), a clear one has the reply read
(`tickListen_of_clear`), of which only `BIND_4` sends the ID (`setId_replyId`). -/
theorem listenArmReadsTheReply : Obligations.ListenArmReadsTheReply := by
  intro s k
  refine ⟨fun hbusy => congrArg Host.Outcome.next (tickListen_of_busy k hbusy), fun hclear => ?_⟩
  generalize ht : readPacket 16 (sendAll [pollFrame s.config] s) = t
  refine ⟨t, ht ▸ readPacket_readBack 16 _, ?_, ?_, ?_⟩ <;> rintro rfl <;>
    refine congrArg Host.Outcome.next ((tickListen_of_clear _ hclear ht.symm).trans ?_)
  · rfl
  · rw [programId, if_pos rfl, setId_replyId]
    rfl
  · rfl

/-! ## The completion-code arm (R258, R260) -/

/-- `Finalize` as one state: its two frames, then the registers it writes (R260). -/
theorem finalize_eq (s : State) :
    finalize s = { sendAll [[s.config.codeReg, s.config.codeFecValue], [s.config.strobeStandby]] s with
      lastStrobe := s.config.strobeStandby
      state := 0x08
      restarts := 0 } := by
  rw [finalize, regWrite, or_writeFlag]
  rfl

theorem tickBind8_of_busy {s : State} (h : busy s.config (misoAt s 1) = true) :
    tickBind8 s = bindFailure .bind7 s.config.dlyB8Fail (sendAll [pollFrame s.config] s) := if_pos h

/-- With a reply `t` read back, its byte 1 decides (R258). -/
theorem tickBind8_of_clear {s t : State} (h : busy s.config (misoAt s 1) = false)
    (ht : t = readPacket 16 (sendAll [pollFrame s.config] s)) :
    tickBind8 s = if t.rxbuf[1] = 9 then { finalize t with delayUs := s.config.dlyB8Ok }
      else { t with state := 0x06, delayUs := s.config.dlyB8Fail } := by
  have hconfig : t.config = s.config := by rw [ht, (moved_readPacket 16 _).config, sendAll_config]
  have harm : tickBind8 s = if t.rxbuf[1] = 9 then { finalize t with delayUs := t.config.dlyB8Ok }
      else { t with state := 0x06, delayUs := t.config.dlyB8Fail } :=
    ht ▸ if_neg (Bool.eq_false_iff.1 h)
  rw [harm, hconfig]

/-- Settles O44: a busy mode register fails the listen, a clear one leaves the choice to byte 1 of the reply
(`tickBind8_of_clear`). -/
theorem completionCodeEndsTheBind : Obligations.CompletionCodeEndsTheBind := by
  refine fun s => ⟨fun hbusy => congrArg Host.Outcome.next (tickBind8_of_busy hbusy), fun hclear => ?_⟩
  generalize ht : readPacket 16 (sendAll [pollFrame s.config] s) = t
  have harm := tickBind8_of_clear hclear ht.symm
  have hconfig : t.config = s.config := by rw [← ht, (moved_readPacket 16 _).config, sendAll_config]
  refine ⟨t, ht ▸ readPacket_readBack 16 _, fun hcode => ?_, fun hcode => ?_⟩
  · exact congrArg Host.Outcome.next (harm.trans (if_neg hcode))
  · refine congrArg Host.Outcome.next (harm.trans ((if_pos hcode).trans ?_))
    rw [finalize_eq, hconfig]

end Sys2Proof.Machine
end

-- The bus between two states (10_state.md R58, 40_transport.md R150 to R157): the frames sent, the answers still to come,
-- and what the polls among them saw.
section

namespace Sys2Proof.Machine

/-! ## Frames sent -/

/-- The part of the state that a frame reads and writes (R150). -/
def bus (s : State) : List Frame × List Byte × Nat := (s.trace, s.misoQueue, s.draws)

theorem bus_eq_iff {s t : State} :
    bus t = bus s ↔ t.trace = s.trace ∧ t.misoQueue = s.misoQueue ∧ t.draws = s.draws := by
  simp only [bus, Prod.mk.injEq]

theorem bus_xfer_congr {s t : State} (h : bus t = bus s) (m : List Byte) : bus (xfer m t) = bus (xfer m s) := by
  obtain ⟨htrace, hqueue, hdraws⟩ := bus_eq_iff.1 h
  simp only [bus, xfer_trace, xfer_misoQueue, xfer_draws, htrace, answers_congr hqueue hdraws, hqueue, hdraws]

theorem bus_sendAll_congr {s t : State} (h : bus t = bus s) (fs : List (List Byte)) :
    bus (sendAll fs t) = bus (sendAll fs s) := by
  induction fs generalizing s t with
  | nil => exact h
  | cons m fs ih => exact ih (bus_xfer_congr h m)

/-- The frames `fs`, and no other, were sent from `s` to `t`; the registers may have changed besides. -/
def Sent (fs : List (List Byte)) (s t : State) : Prop := bus t = bus (sendAll fs s)

theorem Sent.trans {fs gs : List (List Byte)} {s t u : State} (h : Sent fs s t) (h' : Sent gs t u) :
    Sent (fs ++ gs) s u := by
  rw [Sent, sendAll_append]
  exact Eq.trans h' (bus_sendAll_congr h gs)

/-- How many bytes a list of frames has. -/
def bytes (fs : List (List Byte)) : Nat := (fs.map List.length).sum

@[simp] theorem bytes_nil : bytes [] = 0 := rfl

@[simp] theorem bytes_cons (m : List Byte) (fs : List (List Byte)) : bytes (m :: fs) = m.length + bytes fs := rfl

@[simp] theorem bytes_append (fs gs : List (List Byte)) : bytes (fs ++ gs) = bytes fs + bytes gs := by simp [bytes]

@[simp] theorem bytes_replicate (n : Nat) (m : List Byte) : bytes (List.replicate n m) = n * m.length := by simp [bytes]

/-- The frames sent have taken an answer for each of their bytes (R150). -/
theorem Sent.misoAt_eq {fs : List (List Byte)} {s t : State} (h : Sent fs s t) (j : Nat) :
    misoAt t j = misoAt s (bytes fs + j) := by
  obtain ⟨-, hqueue, hdraws⟩ := bus_eq_iff.1 h
  rw [misoAt_congr hqueue hdraws, misoAt_sendAll, bytes]

theorem Sent.trace_prefix {fs : List (List Byte)} {s t : State} (h : Sent fs s t) : s.trace <+: t.trace :=
  (bus_eq_iff.1 h).1 ▸ sendAll_prefix fs s

theorem Sent.newFrames_mosi {fs : List (List Byte)} {s t : State} (h : Sent fs s t) :
    (newFrames s t).map Frame.mosi = fs := by
  rw [newFrames, (bus_eq_iff.1 h).1, List.map_drop, sendAll_mosi, ← List.length_map (f := Frame.mosi), List.drop_left]

theorem Moved.trace_prefix {s t : State} (h : Moved s t) : s.trace <+: t.trace := h.extends.1

theorem newFrames_append {s t u : State} (hst : s.trace <+: t.trace) (htu : t.trace <+: u.trace) :
    newFrames s u = newFrames s t ++ newFrames t u := by
  obtain ⟨fs, hfs⟩ := hst
  obtain ⟨gs, hgs⟩ := htu
  simp [newFrames, ← hgs, ← hfs]

/-- A frame sent in between stands in the trace with the answers it drew (R58). -/
theorem Sent.mem_newFrames {fs gs : List (List Byte)} {m : List Byte} {s t : State} (h : Sent (fs ++ m :: gs) s t) :
    ⟨m, answers (sendAll fs s) m.length⟩ ∈ newFrames s t := by
  have htrace : t.trace = (sendAll gs (xfer m (sendAll fs s))).trace := by
    rw [(bus_eq_iff.1 h).1, sendAll_append, sendAll_cons]
  have hbefore : s.trace <+: (sendAll fs s).trace := sendAll_prefix fs s
  have hafter : (xfer m (sendAll fs s)).trace <+: t.trace := htrace ▸ sendAll_prefix gs _
  have hframe : newFrames (sendAll fs s) (xfer m (sendAll fs s)) = [⟨m, answers (sendAll fs s) m.length⟩] := by
    simp [newFrames]
  have hstep : (sendAll fs s).trace <+: (xfer m (sendAll fs s)).trace := List.prefix_append _ _
  rw [newFrames_append hbefore (hstep.trans hafter), newFrames_append hstep hafter, hframe]
  simp

/-! ## What the polls saw -/

/-- Every `MODE_REG` byte drawn between `s` and `t` has its busy bit as `b` says: `ModeClear` and `ModeBusy` in one. -/
abbrev ModeIs (b : Bool) (s t : State) : Prop :=
  ∀ f ∈ newFrames s t, f.mosi = pollFrame s.config → ∀ m ∈ f.miso[1]?, busy s.config m = b

/-- What all polls of a run saw, those of a part of it saw. -/
theorem ModeIs.part {b : Bool} {s t u v : State} (h : ModeIs b s t) (hsu : s.trace <+: u.trace)
    (huv : u.trace <+: v.trace) (hvt : v.trace <+: t.trace) (hconfig : u.config = s.config) : ModeIs b u v := by
  intro f hf
  rw [hconfig]
  refine h f ?_
  rw [newFrames_append hsu (huv.trans hvt), newFrames_append huv hvt]
  simp [hf]

/-- The draw of a poll among the frames sent. -/
theorem ModeIs.busy_eq {b : Bool} {fs gs : List (List Byte)} {s t : State} (h : ModeIs b s t)
    (hsent : Sent (fs ++ pollFrame s.config :: gs) s t) : busy s.config (misoAt s (bytes fs + 1)) = b := by
  refine h _ hsent.mem_newFrames rfl _ ?_
  rw [bytes, ← misoAt_sendAll]
  rfl

/-- The draws of polls in a row among the frames sent. -/
theorem ModeIs.busy_eq_of_lt {b : Bool} {fs gs : List (List Byte)} {p i : Nat} {s t : State} (h : ModeIs b s t)
    (hsent : Sent (fs ++ (List.replicate p (pollFrame s.config) ++ gs)) s t) (hi : i < p) :
    busy s.config (misoAt s (bytes fs + (2 * i + 1))) = b := by
  have hsplit : List.replicate p (pollFrame s.config) =
      List.replicate i (pollFrame s.config) ++ pollFrame s.config :: List.replicate (p - i - 1) (pollFrame s.config) := by
    rw [← List.replicate_succ, ← List.replicate_add]
    congr 1
    omega
  rw [hsplit, List.append_assoc, List.cons_append, ← List.append_assoc] at hsent
  have hdraw := h.busy_eq hsent
  rwa [bytes_append, bytes_replicate, length_pollFrame, Nat.mul_comm, Nat.add_assoc] at hdraw

/-- Against a clear mode register a poll ends at its first read (R157). -/
theorem Polled.of_clear {c : Config} {m : Nat → Byte} {k p : Nat} {late : Bool} (h : Polled c m k p late) (hk : 1 ≤ k)
    (hclear : ∀ i < p, busy c (m i) = false) : p = 1 ∧ late = false := by
  cases late with
  | true =>
    obtain ⟨rfl, hbusy⟩ := h
    exact absurd ((hbusy 0 hk).symm.trans (hclear 0 hk)) (by decide)
  | false =>
    obtain ⟨hmin, -, hbusy, -⟩ := h
    refine ⟨Nat.le_antisymm (Nat.le_of_not_lt fun hp => ?_) hmin, rfl⟩
    exact absurd ((hbusy 0 hp).symm.trans (hclear 0 hmin)) (by decide)

/-- Against a busy mode register a poll runs out (R157). -/
theorem Polled.of_busy {c : Config} {m : Nat → Byte} {k p : Nat} {late : Bool} (h : Polled c m k p late)
    (hbusy : ∀ i < p, busy c (m i) = true) : late = true := by
  cases late with
  | true => rfl
  | false =>
    obtain ⟨hmin, -, -, hclear⟩ := h
    exact absurd ((hbusy (p - 1) (by omega)).symm.trans hclear) (by decide)

/-! ## The bus sequences -/

theorem bytes_packetFrames (c : Config) (data : List Byte) (ch : Byte) :
    bytes (packetFrames c data ch) = 5 + data.length := by
  simp [packetFrames]
  omega

/-- The frames of a packet transmission: the packet's own, then its completion polls (R155, R375). -/
theorem Wrote.sent {n : Nat} {ch : Byte} {s t : State} (h : Wrote n ch s t) :
    ∃ p, Sent (packetFrames s.config (s.txbuf.toList.take n) ch ++ List.replicate p (pollFrame s.config)) s t ∧
      (n ≤ 16 → ModeIs false s t → p = min 1 s.config.txPollMax) := by
  obtain ⟨p, late, hpolled, ht⟩ := h
  have hsent : Sent (packetFrames s.config (s.txbuf.toList.take n) ch ++ List.replicate p (pollFrame s.config)) s t :=
    bus_eq_iff.2 (by rw [ht]; exact ⟨rfl, rfl, rfl⟩)
  refine ⟨p, hsent, fun hn hclear => ?_⟩
  split at hpolled
  next h0 => rw [hpolled.1, h0]; rfl
  next h0 =>
    have hmax : 1 ≤ s.config.txPollMax := by omega
    refine (hpolled.of_clear hmax fun i hi => ?_).1.trans (Nat.min_eq_left hmax).symm
    have hdraw := hclear.busy_eq_of_lt (gs := []) (by rwa [List.append_nil]) hi
    rwa [bytes_packetFrames, List.length_take, Vector.length_toList, Nat.min_eq_left hn] at hdraw

theorem ReadBack.config {n : Nat} {s t : State} (h : ReadBack n s t) : t.config = s.config := by
  rw [ReadBack] at h
  rw [h]
  exact sendAll_config _ s

theorem ReadBack.txcount {n : Nat} {s t : State} (h : ReadBack n s t) : t.txcount = s.txcount := by
  rw [ReadBack] at h
  rw [h]
  exact sendAll_txcount _ s

theorem ReadBack.devId {n : Nat} {s t : State} (h : ReadBack n s t) : t.devId = s.devId := by
  rw [ReadBack] at h
  rw [h]
  exact sendAll_devId _ s

theorem ReadBack.sent {n : Nat} {s t : State} (h : ReadBack n s t) :
    Sent ([s.config.strobeRstRdptr] :: List.replicate n [0x45, s.config.dummyByte]) s t := by
  rw [ReadBack] at h
  subst h
  rfl

theorem Wrote.txcount {n : Nat} {ch : Byte} {s t : State} (h : Wrote n ch s t) : t.txcount = s.txcount + 1 := by
  obtain ⟨p, late, -, rfl⟩ := h
  rfl

theorem Wrote.devId {n : Nat} {ch : Byte} {s t : State} (h : Wrote n ch s t) : t.devId = s.devId := by
  obtain ⟨p, late, -, rfl⟩ := h
  exact sendAll_devId _ s

theorem Wrote.config {n : Nat} {ch : Byte} {s t : State} (h : Wrote n ch s t) : t.config = s.config := by
  obtain ⟨p, late, -, rfl⟩ := h
  exact sendAll_config _ s

end Sys2Proof.Machine
end

-- The tick-driven bind as a run (43_bind.md R270, R274): three ticks to a leg, which transmits, waits and listens.
section

namespace Sys2Proof.Machine

/-! ## What a stretch of ticks leaves -/

/-- What tells a packet of 16 bytes from an ID frame: the head of the frame; other frames are left out. -/
def headOf (m : List Byte) : Option (List Byte) :=
  if m.length = 17 then some (m.take 2) else if m.length = 5 then some (m.take 1) else none

/-- A failed listen sends nothing (R256). -/
theorem bus_bindFailure (target : BindTx) (dly : Half) (s : State) : bus (bindFailure target dly s) = bus s := by
  dsimp only [bindFailure]
  split
  · rfl
  · rfl

theorem filterMap_headOf_replicate (p : Nat) (m : List Byte) (h : headOf m = none) :
    (List.replicate p m).filterMap headOf = [] := List.filterMap_replicate_of_none h

theorem headOf_pollFrame (c : Config) : headOf (pollFrame c) = none := rfl

theorem filterMap_headOf_reads (c b d : Byte) (n : Nat) :
    ([c] :: List.replicate n [b, d]).filterMap headOf = [] :=
  (List.filterMap_cons_none rfl).trans (filterMap_headOf_replicate n _ rfl)

theorem filterMap_headOf_packetFrames (c : Config) {data : List Byte} (hlen : data.length = 16) (ch : Byte) :
    (packetFrames c data ch).filterMap headOf = [0x05 :: data.take 1] := by
  simp [packetFrames, headOf, hlen]

/-- From `s` to `t` the block counted `n` transmissions, and `heads` are the heads of its packets and ID frames; only an ID
frame changes `DEV_ID`. -/
structure Went (s t : State) (n : Byte) (heads : List (List Byte)) : Prop where
  config : t.config = s.config
  txcount : t.txcount = s.txcount + n
  devId : [0x06] ∉ heads → t.devId = s.devId
  sent : ∃ fs, Sent fs s t ∧ fs.filterMap headOf = heads

theorem Went.trans {s t u : State} {m n : Byte} {hs hs' : List (List Byte)} (h : Went s t m hs) (h' : Went t u n hs') :
    Went s u (m + n) (hs ++ hs') where
  config := h'.config.trans h.config
  txcount := by rw [h'.txcount, h.txcount, BitVec.add_assoc]
  devId hnot := by
    rw [List.mem_append, not_or] at hnot
    rw [h'.devId hnot.2, h.devId hnot.1]
  sent := by
    obtain ⟨fs, hsent, rfl⟩ := h.sent
    obtain ⟨gs, hsent', rfl⟩ := h'.sent
    exact ⟨fs ++ gs, hsent.trans hsent', List.filterMap_append⟩

theorem Went.trace_prefix {s t : State} {n : Byte} {heads : List (List Byte)} (h : Went s t n heads) :
    s.trace <+: t.trace := by
  obtain ⟨fs, hsent, -⟩ := h.sent
  exact hsent.trace_prefix

/-! ## The arms -/

theorem went_tickBindTx (k : BindTx) (s : State) : Went s (tickBindTx k s) 1 [[0x05, level k]] := by
  obtain ⟨t, hwrote, heq⟩ := tickBindTx_spec k s
  obtain ⟨p, hsent, -⟩ := hwrote.sent
  have hstandby : Sent [[s.config.strobeStandby]] s (readyToSend (level k) s) := rfl
  have hpacket : (readyToSend (level k) s).txbuf.toList = withCks (bindBytes s.config (level k) s.channel s.sessionId) :=
    buildBind_txbuf_toList (level k) s
  have hlen : (withCks (bindBytes s.config (level k) s.channel s.sessionId)).length = 16 := rfl
  rw [hpacket, List.take_of_length_le hlen.le] at hsent
  rw [heq]
  refine ⟨hwrote.config, hwrote.txcount, fun _ => hwrote.devId, _, hstandby.trans hsent, ?_⟩
  rw [List.filterMap_append, List.filterMap_append, filterMap_headOf_packetFrames _ hlen,
    filterMap_headOf_replicate _ _ (headOf_pollFrame _)]
  rfl

theorem went_tickTxDone (k : BindTx) (s : State) : Went s (tickTxDone k s) 0 [] := by
  obtain ⟨p, late, -, heq⟩ := tickTxDone_spec k s
  rw [heq]
  refine ⟨sendAll_config _ s, (sendAll_txcount _ s).trans (BitVec.add_zero _).symm, fun _ => sendAll_devId _ s, _, rfl, ?_⟩
  rw [List.filterMap_append, filterMap_headOf_replicate _ _ (headOf_pollFrame _)]
  rfl

/-- A clear poll and the reply read back (R254, R258). -/
theorem went_readPacket {s t : State} (ht : t = readPacket 16 (sendAll [pollFrame s.config] s)) : Went s t 0 [] := by
  have hread : ReadBack 16 (sendAll [pollFrame s.config] s) t := ht ▸ readPacket_readBack 16 _
  have hpoll : Sent [pollFrame s.config] s (sendAll [pollFrame s.config] s) := rfl
  refine ⟨by rw [hread.config, sendAll_config], (hread.txcount.trans (sendAll_txcount _ s)).trans (BitVec.add_zero _).symm,
    fun _ => by rw [hread.devId, sendAll_devId], _, hpoll.trans hread.sent, ?_⟩
  rw [List.filterMap_append, filterMap_headOf_reads]
  rfl

/-- The ID frame of `BIND_4` (R254). -/
theorem went_programId (k : BindListen) (t : State) :
    Went t (programId k t) 0 (if k = .bind4 then [[0x06]] else []) := by
  unfold programId
  split
  · rw [setId_replyId]
    exact ⟨sendAll_config _ t, (sendAll_txcount _ t).trans (BitVec.add_zero _).symm,
      fun hnot => absurd (List.mem_singleton.2 rfl) hnot, _, rfl, rfl⟩
  · exact ⟨rfl, (BitVec.add_zero _).symm, fun _ => rfl, [], rfl, rfl⟩

theorem went_tickListen (k : BindListen) {s : State} (h : busy s.config (misoAt s 1) = false) :
    Went s (tickListen k s) 0 (if k = .bind4 then [[0x06]] else []) := by
  generalize ht : readPacket 16 (sendAll [pollFrame s.config] s) = t
  have hwent := (went_readPacket ht.symm).trans (went_programId k t)
  rw [tickListen_of_clear k h ht.symm]
  exact ⟨hwent.config, hwent.txcount, hwent.devId, hwent.sent⟩

theorem tickListen_state_of_clear (k : BindListen) {s : State} (h : busy s.config (misoAt s 1) = false) :
    (tickListen k s).state = k.code + 1 := by
  rw [tickListen_of_clear k h rfl]
  rfl

theorem tickListen_txcount (k : BindListen) (s : State) : (tickListen k s).txcount = s.txcount := by
  cases h : busy s.config (misoAt s 1) with
  | true =>
    rw [tickListen_of_busy k h, (bindFailure_config_txcount _ _ _).2, sendAll_txcount]
  | false => exact (went_tickListen k h).txcount.trans (BitVec.add_zero _)

/-- The ID frame is the last of the `BIND_4` tick, and `DEV_ID` holds the bytes it carries (R254). -/
theorem tickListen_bind4_id {s : State} (h : busy s.config (misoAt s 1) = false) :
    ∃ r2 r3 r4 r5 : Byte, ((newFrames s (tickListen .bind4 s)).map Frame.mosi).getLast? = some [0x06, r2, r3, r4, r5] ∧
      (tickListen .bind4 s).devId = r2 ++ r3 ++ r4 ++ r5 := by
  generalize ht : readPacket 16 (sendAll [pollFrame s.config] s) = t
  obtain ⟨fs, hread, -⟩ := (went_readPacket ht.symm).sent
  have hid : Sent [[0x06, t.rxbuf[2], t.rxbuf[3], t.rxbuf[4], t.rxbuf[5]]] t (tickListen .bind4 s) := by
    rw [tickListen_of_clear _ h ht.symm, programId, if_pos rfl, setId_replyId]
    rfl
  refine ⟨t.rxbuf[2], t.rxbuf[3], t.rxbuf[4], t.rxbuf[5], ?_, ?_⟩
  · rw [(hread.trans hid).newFrames_mosi, List.getLast?_append]
    rfl
  · rw [tickListen_of_clear _ h ht.symm, programId, if_pos rfl, setId_replyId]
    rfl

/-- The last tick of a bind sends no packet, whether its reply has the code or not (R258). -/
theorem went_tickBind8 {s : State} (h : busy s.config (misoAt s 1) = false) : Went s (tickBind8 s) 0 [] := by
  generalize ht : readPacket 16 (sendAll [pollFrame s.config] s) = t
  have hread := went_readPacket ht.symm
  rw [tickBind8_of_clear h ht.symm]
  split
  · rw [finalize_eq]
    have hfinal : Went t (sendAll [[t.config.codeReg, t.config.codeFecValue], [t.config.strobeStandby]] t) 0 [] :=
      ⟨sendAll_config _ t, (sendAll_txcount _ t).trans (BitVec.add_zero _).symm, fun _ => sendAll_devId _ t, _, rfl, rfl⟩
    have hwent := hread.trans hfinal
    exact ⟨hwent.config, hwent.txcount, hwent.devId, hwent.sent⟩
  · exact ⟨hread.config, hread.txcount, hread.devId, hread.sent⟩

/-- `STATE` after a clear `BIND_8` tick tells what byte 1 of the reply in `RXBUF` was (R258). -/
theorem tickBind8_state_of_clear {s : State} (h : busy s.config (misoAt s 1) = false) :
    (tickBind8 s).state = if (tickBind8 s).rxbuf[1] = 9 then 0x08 else 0x06 := by
  generalize ht : readPacket 16 (sendAll [pollFrame s.config] s) = t
  rw [tickBind8_of_clear h ht.symm]
  by_cases hcode : t.rxbuf[1] = 9
  · rw [if_pos hcode, finalize_eq]
    exact (if_pos ((congrArg (fun v : Packet => v[1]) (sendAll_rxbuf _ t)).trans hcode)).symm
  · rw [if_neg hcode]
    exact (if_neg hcode).symm

/-! ## Ticks in a row -/

theorem ticks_succ {s t : State} (h : exec .tick s = .next t) (n : Nat) : ticks (n + 1) s = (ticks n t).map (t :: ·) := by
  simp only [ticks, h]

/-- From a session `TICK` may be given for ever: it never leads to `IDLE`, and in `BIND_FAILED` it answers as well. -/
theorem ticks_isSome (n : Nat) {s : State} (hreach : s.state ∈ reachableStates) (hidle : s.state ≠ 0x0F) :
    ∃ ts, ticks n s = some ts := by
  induction n generalizing s with
  | zero => exact ⟨[], rfl⟩
  | succ n ih =>
    obtain ⟨t, htick, hreach', hidle'⟩ : ∃ t, exec .tick s = .next t ∧ t.state ∈ reachableStates ∧ t.state ≠ 0x0F := by
      by_cases hfailed : s.state = 0x0E
      · exact ⟨_, exec_tick hfailed rfl, hreach, hidle⟩
      · obtain ⟨t, htick, -, -, hreach', hidle', -⟩ := tickCompletesInEveryActiveState s hreach hfailed hidle
        exact ⟨t, htick, hreach', hidle'⟩
    obtain ⟨ts, hts⟩ := ih hreach' hidle'
    exact ⟨t :: ts, by rw [ticks_succ htick, hts]; rfl⟩

/-- `n` ticks from `s` go through `ts` and end in `t`. -/
def TicksTo (n : Nat) (s : State) (ts : List State) (t : State) : Prop :=
  ticks n s = some ts ∧ (s :: ts).getLast? = some t

theorem TicksTo.zero {s t : State} {ts : List State} (h : TicksTo 0 s ts t) : ts = [] ∧ t = s := by
  obtain ⟨hticks, hlast⟩ := h
  obtain rfl : [] = ts := Option.some.inj hticks
  exact ⟨rfl, (Option.some.inj hlast).symm⟩

theorem TicksTo.succ {n : Nat} {s t a : State} {ts : List State} (h : TicksTo (n + 1) s ts t)
    (htick : exec .tick s = .next a) : ∃ us, ts = a :: us ∧ TicksTo n a us t := by
  obtain ⟨hticks, hlast⟩ := h
  rw [ticks_succ htick, Option.map_eq_some_iff] at hticks
  obtain ⟨us, hus, rfl⟩ := hticks
  exact ⟨us, rfl, hus, by rwa [List.getLast?_cons_cons] at hlast⟩

theorem exec_trace_prefix {i : Instr} {s t : State} (h : exec i s = .next t) : s.trace <+: t.trace :=
  (exec_did h).extends.1

theorem TicksTo.trace_prefix {n : Nat} {s t : State} {ts : List State} (h : TicksTo n s ts t) :
    s.trace <+: t.trace := by
  induction n generalizing s ts with
  | zero => rw [h.zero.2]
  | succ n ih =>
    cases htick : exec .tick s with
    | next a =>
      obtain ⟨us, -, hrest⟩ := h.succ htick
      exact (exec_trace_prefix htick).trans (ih hrest)
    | fault r | refused r =>
      have hnone := h.1
      simp only [ticks, htick] at hnone
      cases hnone

/-! ## A leg of the bind -/

/-- The first two ticks of a leg: a packet of its level, then the wait (R250, R252). -/
theorem TicksTo.send {k : BindTx} {n : Nat} {s t : State} {ts : List State} (h : TicksTo (n + 2) s ts t)
    (hs : s.state = k.code) :
    ∃ a b us, ts = a :: b :: us ∧ TicksTo n b us t ∧ a.state = (k.code ||| waitWrite) ∧ b.state = k.code + 1 ∧
      Went s b 1 [[0x05, level k]] := by
  obtain ⟨us, rfl, hrest⟩ := h.succ (exec_tick_eq_exec_instr (.bindTx k) hs)
  have hstate : (tickBindTx k s).state = (TickArm.txDone k).code := rfl
  obtain ⟨vs, rfl, hend⟩ := hrest.succ (exec_tick_eq_exec_instr (.txDone k) hstate)
  exact ⟨_, _, vs, rfl, hend, rfl, rfl, (went_tickBindTx k s).trans (went_tickTxDone k _)⟩

/-- A tick that only polls when the mode register is busy has found it clear, if all polls did. -/
theorem busy_eq_false_of_modeIs {s c : State} (hclear : ModeIs false s c)
    (hpoll : busy s.config (misoAt s 1) = true → Sent [pollFrame s.config] s c) :
    busy s.config (misoAt s 1) = false := by
  cases hbusy : busy s.config (misoAt s 1) with
  | false => rfl
  | true => exact hbusy.symm.trans (hclear.busy_eq (fs := []) (hpoll hbusy))

/-- The last tick of a leg, the mode register clear: the reply read, and at `BIND_4` the ID programmed (R254). -/
theorem TicksTo.listen {k : BindListen} {n : Nat} {s t : State} {ts : List State} (h : TicksTo (n + 1) s ts t)
    (hs : s.state = k.code) (hclear : ModeIs false s t) :
    ∃ c us, ts = c :: us ∧ TicksTo n c us t ∧ c.state = k.code + 1 ∧
      Went s c 0 (if k = .bind4 then [[0x06]] else []) ∧ busy s.config (misoAt s 1) = false ∧ c = tickListen k s := by
  obtain ⟨us, rfl, hrest⟩ := h.succ (exec_tick_eq_exec_instr (.listen k) hs)
  have hfree : busy s.config (misoAt s 1) = false := by
    refine busy_eq_false_of_modeIs (c := tickListen k s) (hclear.part List.prefix_rfl ?_ hrest.trace_prefix rfl) fun hbusy => ?_
    · exact exec_trace_prefix (i := .tickListen k) rfl
    · rw [tickListen_of_busy k hbusy]
      exact bus_bindFailure _ _ _
  exact ⟨_, us, rfl, hrest, tickListen_state_of_clear k hfree, went_tickListen k hfree, hfree, rfl⟩

/-- A whole leg against a clear mode register, from one transmit state to the state after its listening. -/
theorem TicksTo.leg {k : BindTx} {j : BindListen} (hkj : k.code + 1 = j.code) {n : Nat} {s t : State} {ts : List State}
    (h : TicksTo (n + 3) s ts t) (hs : s.state = k.code) (hclear : ModeIs false s t) :
    ∃ a b c us, ts = a :: b :: c :: us ∧ TicksTo n c us t ∧ ModeIs false c t ∧
      a.state = (k.code ||| waitWrite) ∧ b.state = j.code ∧ c.state = j.code + 1 ∧
      Went s c 1 ([0x05, level k] :: if j = .bind4 then [[0x06]] else []) ∧
      busy b.config (misoAt b 1) = false ∧ c = tickListen j b := by
  obtain ⟨a, b, us, rfl, hrest, ha, hb, hwent⟩ := h.send hs
  have hclear' : ModeIs false b t := hclear.part hwent.trace_prefix hrest.trace_prefix List.prefix_rfl hwent.config
  obtain ⟨c, vs, rfl, hend, hc, hwent', hfree, heq⟩ := hrest.listen (hb.trans hkj) hclear'
  exact ⟨a, b, c, vs, rfl, hend,
    hclear'.part hwent'.trace_prefix hend.trace_prefix List.prefix_rfl hwent'.config, ha, hb.trans hkj, hc,
    hwent.trans hwent', hfree, heq⟩

/-- The last leg of a bind, the reply at `BIND_8` with the code (R258). -/
theorem TicksTo.lastLeg {s t : State} {ts : List State} (h : TicksTo 3 s ts t) (hs : s.state = BindTx.bind7.code)
    (hclear : ModeIs false s t) (hcode : t.rxbuf[1] = 9) :
    ∃ a b, ts = [a, b, t] ∧ a.state = 0x86 ∧ b.state = 0x07 ∧ t.state = 0x08 ∧ Went s t 1 [[0x05, 9]] := by
  obtain ⟨a, b, us, rfl, hrest, ha, hb, hwent⟩ := h.send hs
  obtain ⟨vs, rfl, hend⟩ := hrest.succ (exec_tick_eq_exec_instr .bind8 hb)
  obtain ⟨rfl, rfl⟩ := hend.zero
  have hclear' : ModeIs false b (tickBind8 b) :=
    hclear.part hwent.trace_prefix hrest.trace_prefix List.prefix_rfl hwent.config
  have hfree : busy b.config (misoAt b 1) = false := busy_eq_false_of_modeIs hclear' fun hbusy => by
    rw [tickBind8_of_busy hbusy]
    exact bus_bindFailure _ _ _
  exact ⟨a, b, rfl, ha, hb, (tickBind8_state_of_clear hfree).trans (if_pos hcode), hwent.trans (went_tickBind8 hfree)⟩

/-- Settles O45: three legs (`TicksTo.leg`) and a last one whose reply has the code (`TicksTo.lastLeg`), put together by
`Went.trans`; after the second leg no ID frame is sent, so `DEV_ID` stays. -/
theorem shortestBindTakesTwelveTicks : Obligations.ShortestBindTakesTwelveTicks := by
  intro s _ hs
  obtain ⟨ts, hticks⟩ := ticks_isSome 12 (s := s) (by rw [hs]; decide) (by rw [hs]; decide)
  refine ⟨ts, hticks, fun t hlast hclear hcode => ?_⟩
  have hrun : TicksTo 12 s ts t := by
    refine ⟨hticks, ?_⟩
    rw [List.getLast?_cons, hlast]
    rfl
  obtain ⟨a1, b1, c1, us, rfl, hrun, hclear, ha1, hb1, hc1, hwent1, -, -⟩ :=
    hrun.leg (k := .bind1) (j := .bind2) rfl hs hclear
  obtain ⟨a2, b2, c2, us, rfl, hrun, hclear, ha2, hb2, hc2, hwent2, hfree, rfl⟩ :=
    hrun.leg (k := .bind3) (j := .bind4) rfl hc1 hclear
  obtain ⟨a3, b3, c3, us, rfl, hrun, hclear, ha3, hb3, hc3, hwent3, -, -⟩ :=
    hrun.leg (k := .bind5) (j := .bind6) rfl hc2 hclear
  obtain ⟨a4, b4, rfl, ha4, hb4, ht, hwent4⟩ := hrun.lastLeg hc3 hclear hcode
  have hlater := hwent3.trans hwent4
  have hwhole := (hwent1.trans hwent2).trans hlater
  obtain ⟨fs, hsent, hheads⟩ := hwhole.sent
  obtain ⟨r2, r3, r4, r5, hframe, hid⟩ := tickListen_bind4_id hfree
  refine ⟨?_, hwhole.txcount, b2, tickListen .bind4 b2, rfl, rfl, ⟨r2, r3, r4, r5, hframe, hid, ?_⟩, ?_⟩
  · simp only [List.map_cons, List.map_nil, ha1, hb1, hc1, ha2, hb2, hc2, ha3, hb3, hc3, ha4, hb4, ht]
    rfl
  · exact hlater.devId (by decide)
  · rw [hsent.newFrames_mosi]
    exact hheads

/-! ## Binds without end -/

/-- The three ticks of a leg, whatever the transceiver answers. -/
theorem ticks_three {k : BindTx} {s c : State} (hs : s.state = k.code)
    (hlisten : exec .tick (tickTxDone k (tickBindTx k s)) = .next c) :
    ticks 3 s = some [tickBindTx k s, tickTxDone k (tickBindTx k s), c] := by
  have hwait : (tickBindTx k s).state = (TickArm.txDone k).code := rfl
  rw [ticks_succ (exec_tick_eq_exec_instr (.bindTx k) hs), ticks_succ (exec_tick_eq_exec_instr (.txDone k) hwait),
    ticks_succ hlisten]
  rfl

/-- Settles O46: without a bound a failed listen goes back to `BIND_1` (`bindFailure_of_unbounded`); a reply without the
code goes back to `BIND_7` (`tickBind8_state_of_clear`). -/
theorem bindMayGoRoundForever : Obligations.BindMayGoRoundForever := by
  refine ⟨fun s hs hunbounded => ?_, fun s hs => ?_⟩
  · have hwent := (went_tickBindTx .bind1 s).trans (went_tickTxDone .bind1 _)
    refine ⟨_, _, _, ticks_three (k := .bind1) hs (exec_tick_eq_exec_instr (.listen .bind2) rfl), rfl, rfl, ?_, fun hbusy => ?_⟩
    · rw [tickListen_txcount]
      exact hwent.txcount
    · have hbound : (tickTxDone .bind1 (tickBindTx .bind1 s)).config.bindMaxRestarts = 0 := by rw [hwent.config, hunbounded]
      rw [← hwent.config] at hbusy
      rw [tickListen_of_busy .bind2 hbusy, bindFailure_of_unbounded (by rw [sendAll_config, hbound])]
      exact ⟨rfl, (sendAll_config _ _).trans hwent.config⟩
  · have hwent := (went_tickBindTx .bind7 s).trans (went_tickTxDone .bind7 _)
    refine ⟨_, _, _, ticks_three (k := .bind7) hs (exec_tick_eq_exec_instr .bind8 rfl), rfl, rfl, fun hfree hcode => ?_⟩
    rw [← hwent.config] at hfree
    exact ⟨(tickBind8_state_of_clear hfree).trans (if_neg hcode), (hwent.trans (went_tickBind8 hfree)).config⟩

end Sys2Proof.Machine
end

-- The sequential bind (43_bind.md R264 to R272): its exchanges one by one, and what they send.
section

namespace Sys2Proof.Machine

/-! ## The exchanges of a sequential bind -/

/-- What `BIND_SEQ` does before exchange `n` (R266). -/
def readyExchange : Nat → State → State
  | 0, s => buildBind 1 s
  | 1, s => buildBind 3 s
  | 2, s => buildBind 1 (setId (replyId s) s)
  | i + 3, s => buildRound i s

theorem readied_readyExchange (n : Nat) (s : State) : Readied n s (readyExchange n s) :=
  match n with
  | 0 => readied_buildBind 0 1 s (by decide) rfl
  | 1 => readied_buildBind 1 3 s (by decide) rfl
  | 2 => readied_setId s
  | i + 3 => readied_buildRound i s

theorem moved_readyExchange (n : Nat) (s : State) : Moved s (readyExchange n s) :=
  match n with
  | 0 => moved_buildBind 1 s
  | 1 => moved_buildBind 3 s
  | 2 => (moved_setId _).trans (moved_buildBind 1 _)
  | i + 3 => moved_buildRound i s

theorem readyExchange_round (n : Nat) (s : State) : (readyExchange n s).round = s.round := by
  match n with
  | 0 | 1 | 2 | i + 3 => rfl

/-- `k` exchanges of a sequential bind from exchange `i` on, up to the first that fails (R266). -/
def runExchanges : Nat → Nat → State → Exchange × State
  | 0, _, s => (.ok, s)
  | k + 1, i, s =>
    match exchange s.config.seqMaxAttempts (readyExchange i s) with
    | (.ok, t) => runExchanges k (i + 1) t
    | (.fail, t) => (.fail, t)

theorem runExchanges_of_ok {k i : Nat} {s t : State}
    (h : exchange s.config.seqMaxAttempts (readyExchange i s) = (.ok, t)) :
    runExchanges (k + 1) i s = runExchanges k (i + 1) t := by
  simp only [runExchanges, h]

theorem runExchanges_of_fail {k i : Nat} {s t : State}
    (h : exchange s.config.seqMaxAttempts (readyExchange i s) = (.fail, t)) :
    runExchanges (k + 1) i s = (.fail, t) := by
  simp only [runExchanges, h]

/-- The level-9 rounds are the exchanges from the fourth on (R266 step 5). -/
theorem exchangeRounds_eq_runExchanges (k i : Nat) (s : State) :
    exchangeRounds k i s = runExchanges k (i + 3) s := by
  induction k generalizing i s with
  | zero => rfl
  | succ k ih =>
    rcases he : exchange s.config.seqMaxAttempts (readyExchange (i + 3) s) with ⟨_ | _, t⟩
    · rw [runExchanges_of_ok he, Nat.add_right_comm, ← ih]
      simp only [readyExchange] at he
      simp only [exchangeRounds, he]
    · rw [runExchanges_of_fail he]
      simp only [readyExchange] at he
      simp only [exchangeRounds, he]

/-- The end of a sequential bind (R266): bound after exchanges that all ended well, given up at one that failed. -/
def endSeq : Exchange × State → State
  | (.ok, t) => finalize t
  | (.fail, t) => bindSeqFail t

/-- `BIND_SEQ` is its 13 exchanges, then one of its two ends (R266). -/
theorem bindSeq_eq (s : State) : bindSeq s = endSeq (runExchanges 13 0 (seqStart s)) := by
  have hlevel1 (t : State) : exchangeLevel 1 t = exchange t.config.seqMaxAttempts (readyExchange 0 t) := rfl
  have hlevel3 (t : State) : exchangeLevel 3 t = exchange t.config.seqMaxAttempts (readyExchange 1 t) := rfl
  have hconfirm (t : State) :
    exchangeLevel 1 (setId (replyId t) t) = exchange t.config.seqMaxAttempts (readyExchange 2 t) := rfl
  rw [bindSeq, show bindSeqStart s = seqStart s from rfl]
  rcases h0 : exchangeLevel 1 (seqStart s) with ⟨_ | _, a⟩
  case fail => rw [runExchanges_of_fail ((hlevel1 _).symm.trans h0)]; rfl
  rw [runExchanges_of_ok ((hlevel1 _).symm.trans h0)]
  dsimp only
  rcases h1 : exchangeLevel 3 a with ⟨_ | _, b⟩
  case fail => rw [runExchanges_of_fail ((hlevel3 _).symm.trans h1)]; rfl
  rw [runExchanges_of_ok ((hlevel3 _).symm.trans h1)]
  dsimp only
  rcases h2 : exchangeLevel 1 (setId (replyId b) b) with ⟨_ | _, c⟩
  case fail => rw [runExchanges_of_fail ((hconfirm _).symm.trans h2)]; rfl
  rw [runExchanges_of_ok ((hconfirm _).symm.trans h2)]
  dsimp only
  have hrounds : exchangeRounds Param.seqRounds 0 c = runExchanges 10 (2 + 1) c := exchangeRounds_eq_runExchanges 10 0 c
  rw [hrounds]
  rcases runExchanges 10 (2 + 1) c with ⟨_ | _, d⟩
  · rfl
  · rfl

/-! ## What an exchange leaves -/

/-- An exchange ended well, or all its attempts went unanswered (R264). -/
theorem exchange_outcome (s : State) :
    (∃ t, Answered s t ∧ exchange s.config.seqMaxAttempts s = (.ok, t)) ∨
      ∃ t, Unanswered s.config.seqMaxAttempts s t ∧ exchange s.config.seqMaxAttempts s = (.fail, t) := by
  obtain ⟨n, u, v, w, hn, hun, hatt, hread, heq⟩ | hfail := exchange_spec s.config.seqMaxAttempts s
  · exact .inl ⟨_, ⟨n, u, v, w, hn, hun, hatt, hread, rfl⟩, heq⟩
  · exact .inr hfail

theorem exchange_of_unanswered_all {n : Nat} {s t : State} (h : Unanswered n s t) : exchange n s = (.fail, t) :=
  exchange_of_unanswered 0 h

theorem Answered.moved {s t : State} (h : Answered s t) : Moved s t := by
  have hmoved := moved_exchange s.config.seqMaxAttempts s
  rwa [exchange_of_answered h] at hmoved

theorem Answered.round {s t : State} (h : Answered s t) : t.round = s.round + 1 := by
  have hround := round_exchange s.config.seqMaxAttempts s
  rwa [exchange_of_answered h, if_pos rfl] at hround

theorem Unanswered.moved {n : Nat} {s t : State} (h : Unanswered n s t) : Moved s t := by
  have hmoved := moved_exchange n s
  rwa [exchange_of_unanswered_all h] at hmoved

theorem Unanswered.round {n : Nat} {s t : State} (h : Unanswered n s t) : t.round = s.round := by
  have hround := round_exchange n s
  rwa [exchange_of_unanswered_all h, if_neg nofun] at hround

theorem Attempted.moved {late : Bool} {s t : State} (h : Attempted late s t) : Moved s t := by
  have hmoved := moved_attempt s
  rwa [attempt_of_attempted h] at hmoved

theorem Readied.eq_readyExchange {n : Nat} {s t : State} (h : Readied n s t) : t = readyExchange n s :=
  h.unique (readied_readyExchange n s)

theorem Readied.moved {n : Nat} {s t : State} (h : Readied n s t) : Moved s t :=
  h.eq_readyExchange ▸ moved_readyExchange n s

theorem Readied.round {n : Nat} {s t : State} (h : Readied n s t) : t.round = s.round :=
  h.eq_readyExchange ▸ readyExchange_round n s

/-! ## What a sequence of exchanges leaves -/

theorem SeqAnswered.moved {n : Nat} {s t : State} (h : SeqAnswered n s t) : Moved s t := by
  induction n generalizing t with
  | zero => exact h ▸ Moved.refl s
  | succ n ih =>
    obtain ⟨u, v, hseq, hready, hans⟩ := h
    exact ((ih hseq).trans hready.moved).trans hans.moved

/-- `ROUND` counts the exchanges that ended well (R264). -/
theorem SeqAnswered.round {n : Nat} {s t : State} (h : SeqAnswered n s t) : t.round = s.round + BitVec.ofNat 8 n := by
  induction n generalizing t with
  | zero => exact h ▸ (BitVec.add_zero _).symm
  | succ n ih =>
    obtain ⟨u, v, hseq, hready, hans⟩ := h
    rw [hans.round, hready.round, ih hseq, BitVec.add_assoc, BitVec.ofNat_add]
    rfl

theorem SeqAnswered.unique {n : Nat} {s t t' : State} (h : SeqAnswered n s t) (h' : SeqAnswered n s t') : t = t' := by
  induction n generalizing t t' with
  | zero => exact h.trans h'.symm
  | succ n ih =>
    obtain ⟨u, v, hseq, hready, hans⟩ := h
    obtain ⟨u', v', hseq', hready', hans'⟩ := h'
    obtain rfl := ih hseq hseq'
    obtain rfl := hready.unique hready'
    exact congrArg Prod.snd ((exchange_of_answered hans).symm.trans (exchange_of_answered hans'))

theorem SeqFailsAt.round {n : Nat} {s v w : State} (h : SeqFailsAt n s v w) : w.round = s.round + BitVec.ofNat 8 n := by
  obtain ⟨u, hseq, hready, hun⟩ := h
  rw [hun.round, hready.round, hseq.round]

/-- An exchange that fails does not end well as well (R264). -/
theorem not_answered_of_unanswered {s t t' : State} (h : Unanswered s.config.seqMaxAttempts s t) :
    ¬ Answered s t' := fun hans =>
  have heq := (exchange_of_unanswered_all h).symm.trans (exchange_of_answered hans)
  Exchange.noConfusion (congrArg Prod.fst heq)

/-- After an exchange that failed there is none that ended well (R266). -/
theorem SeqFailsAt.not_seqAnswered {n m : Nat} {s t v w : State} (h : SeqFailsAt n s v w) (hm : n < m) :
    ¬ SeqAnswered m s t := by
  induction m generalizing t with
  | zero => omega
  | succ m ih =>
    rintro ⟨u, v', hseq, hready, hans⟩
    obtain hlt | rfl := Nat.lt_succ_iff_lt_or_eq.1 hm
    · exact ih hlt hseq
    · obtain ⟨u', hseq', hready', hun⟩ := h
      obtain rfl := hseq.unique hseq'
      obtain rfl := hready.unique hready'
      rw [← (hseq.moved.trans hready.moved).config] at hun
      exact not_answered_of_unanswered hun hans

/-- Exchanges that go on from the first `i`: all of them end well, or one is the first to fail (R266). -/
theorem runExchanges_spec {i : Nat} {s t : State} (h : SeqAnswered i s t) (k : Nat) :
    (∃ u, SeqAnswered (i + k) s u ∧ runExchanges k i t = (.ok, u)) ∨
      ∃ n < i + k, ∃ v w, SeqFailsAt n s v w ∧ runExchanges k i t = (.fail, w) := by
  induction k generalizing i t with
  | zero => exact .inl ⟨t, h, rfl⟩
  | succ k ih =>
    have hready := readied_readyExchange i t
    have hconfig := hready.moved.config
    obtain ⟨u, hans, heq⟩ | ⟨w, hun, heq⟩ := exchange_outcome (readyExchange i t)
    · rw [runExchanges_of_ok (by rw [← hconfig, heq]), Nat.add_left_comm i k 1, Nat.add_comm k]
      exact ih ⟨t, _, h, hready, hans⟩
    · rw [runExchanges_of_fail (by rw [← hconfig, heq])]
      rw [hconfig, h.moved.config] at hun
      exact .inr ⟨i, by omega, _, w, ⟨t, h, hready, hun⟩, rfl⟩

/-- Everything `BIND_SEQ` can do, exchange by exchange (R266). -/
theorem bindSeq_cases (s : State) :
    (∃ u, SeqAnswered 13 (seqStart s) u ∧ bindSeq s = finalize u) ∨
      ∃ n < 13, ∃ v w, SeqFailsAt n (seqStart s) v w ∧ bindSeq s = bindSeqFail w := by
  rw [bindSeq_eq]
  obtain ⟨u, hseq, heq⟩ | ⟨n, hn, v, w, hfails, heq⟩ := runExchanges_spec (i := 0) (s := seqStart s) rfl 13
  · exact .inl ⟨u, hseq, by rw [heq]; rfl⟩
  · exact .inr ⟨n, hn, v, w, hfails, by rw [heq]; rfl⟩

/-- Settles O47: the exchanges are those of `bindSeq_cases`, and what the run keeps is said by `bindSeq_spec`. -/
theorem sequentialBindEndsBoundOrFailed : Obligations.SequentialBindEndsBoundOrFailed := by
  refine fun s => ⟨bindSeq s, rfl, ?_, ?_⟩
  · obtain ⟨u, hseq, heq⟩ | hfails := bindSeq_cases s
    · refine .inl ⟨u, hseq, ?_⟩
      rw [heq, finalize_eq, hseq.moved.config]
      rfl
    · exact .inr hfails
  · obtain ⟨u, n, hmoved, ⟨htx, hrx⟩, hround, ⟨hn, heq⟩ | ⟨rfl, hstrobe, heq⟩⟩ := bindSeq_spec s
    · have hsmall : u.round.toNat < 13 := by
        rw [hround, BitVec.toNat_ofNat]
        omega
      rw [heq]
      exact ⟨.inr ⟨rfl, hsmall, rfl⟩, hmoved.restarts, hmoved.rebindReq, hmoved.delayUs, htx, hrx, hmoved.err, hmoved.errcode,
        hmoved.rdata, hmoved.channel, hmoved.sessionId, hmoved.rssiSum, hmoved.bestIdx⟩
    · rw [heq]
      exact ⟨.inl ⟨rfl, hround, hmoved.bfail, hstrobe⟩, rfl, hmoved.rebindReq, hmoved.delayUs, htx, hrx, hmoved.err,
        hmoved.errcode, hmoved.rdata, hmoved.channel, hmoved.sessionId, hmoved.rssiSum, hmoved.bestIdx⟩

end Sys2Proof.Machine
end

-- What the exchanges send (43_bind.md R264, R268, R272): the bursts of an exchange, a silent vehicle, a clear transceiver.
section

namespace Sys2Proof.Machine

/-! ## Bursts -/

/-- The bursts of 16 bytes among frames (R117). -/
def burstsOf (fs : List (List Byte)) : List (List Byte) := fs.filter (·.length = 17)

theorem Sent.bursts_eq {fs : List (List Byte)} {s t : State} (h : Sent fs s t) : bursts s t = burstsOf fs := by
  rw [bursts, h.newFrames_mosi, burstsOf]

/-- From `s` to `t` the packet in `TXBUF` was transmitted `n` times and is still there; no other burst was sent. -/
structure Transmitted (n : Nat) (s t : State) : Prop where
  txbuf : t.txbuf = s.txbuf
  txcount : t.txcount = s.txcount + BitVec.ofNat 8 n
  sent : ∃ fs, Sent fs s t ∧ burstsOf fs = List.replicate n (0x05 :: s.txbuf.toList)

theorem Transmitted.trans {m n : Nat} {s t u : State} (h : Transmitted m s t) (h' : Transmitted n t u) :
    Transmitted (m + n) s u where
  txbuf := h'.txbuf.trans h.txbuf
  txcount := by rw [h'.txcount, h.txcount, BitVec.add_assoc, BitVec.ofNat_add]
  sent := by
    obtain ⟨fs, hsent, hfs⟩ := h.sent
    obtain ⟨gs, hsent', hgs⟩ := h'.sent
    refine ⟨fs ++ gs, hsent.trans hsent', ?_⟩
    rw [burstsOf, List.filter_append, ← burstsOf, ← burstsOf, hfs, hgs, h.txbuf, List.replicate_add]

theorem Transmitted.bursts {n : Nat} {s t : State} (h : Transmitted n s t) :
    bursts s t = List.replicate n (0x05 :: s.txbuf.toList) := by
  obtain ⟨fs, hsent, hfs⟩ := h.sent
  rw [hsent.bursts_eq, hfs]

theorem countP_length_eq_length_bursts (s t : State) :
    ((newFrames s t).map Frame.mosi).countP (fun m => m.length == 17) = (bursts s t).length :=
  List.countP_eq_length_filter

/-! ## An attempt -/

/-- The frames of one attempt: the packet with `p` completion polls, then `q` listen polls (R264). -/
def attemptFrames (c : Config) (data : List Byte) (ch : Byte) (p q : Nat) : List (List Byte) :=
  packetFrames c data ch ++ List.replicate p (pollFrame c) ++ [c.strobeRx] :: List.replicate q (pollFrame c)

theorem burstsOf_attemptFrames (c : Config) {data : List Byte} (hlen : data.length = 16) (ch : Byte) (p q : Nat) :
    burstsOf (attemptFrames c data ch p q) = [0x05 :: data] := by
  simp [burstsOf, attemptFrames, packetFrames, hlen]

/-- What an attempt sends, and what that is when all its polls saw the same (R264, R157). -/
theorem Attempted.sent {late : Bool} {s t : State} (h : Attempted late s t) :
    ∃ p q, Sent (attemptFrames s.config s.txbuf.toList s.channel p q) s t ∧
      (ModeIs true s t → late = true) ∧
      (ModeIs false s t → 1 ≤ s.config.seqListenPolls → p = min 1 s.config.txPollMax ∧ q = 1 ∧ late = false) := by
  obtain ⟨w, q, hwrote, hpolled, ht⟩ := h
  obtain ⟨p, hpacket, hp⟩ := hwrote.sent
  rw [List.take_of_length_le (Vector.length_toList).le] at hpacket
  have hlisten : Sent ([s.config.strobeRx] :: List.replicate q (pollFrame s.config)) w t :=
    bus_eq_iff.2 (by rw [ht]; exact ⟨rfl, rfl, rfl⟩)
  have hdraws {b : Bool} (hmode : ModeIs b s t) : ∀ i < q, busy s.config (misoAt w (1 + (2 * i + 1))) = b := by
    intro i hi
    have hmode' := hmode.part hpacket.trace_prefix hlisten.trace_prefix List.prefix_rfl hwrote.config
    rw [← hwrote.config] at hlisten ⊢
    exact hmode'.busy_eq_of_lt (fs := [[w.config.strobeRx]]) (gs := []) (by rwa [List.append_nil]) hi
  refine ⟨p, q, hpacket.trans hlisten, fun hbusy => hpolled.of_busy (hdraws hbusy), fun hclear hk => ?_⟩
  have hclear' := hclear.part List.prefix_rfl hpacket.trace_prefix hlisten.trace_prefix rfl
  exact ⟨hp le_rfl hclear', hpolled.of_clear hk (hdraws hclear)⟩

theorem Attempted.txbuf {late : Bool} {s t : State} (h : Attempted late s t) : t.txbuf = s.txbuf := by
  obtain ⟨w, q, ⟨p, l, -, rfl⟩, -, rfl⟩ := h
  exact (sendAll_txbuf _ _).trans (sendAll_txbuf _ s)

theorem Attempted.txcount {late : Bool} {s t : State} (h : Attempted late s t) : t.txcount = s.txcount + 1 := by
  obtain ⟨w, q, hwrote, -, rfl⟩ := h
  exact (sendAll_txcount _ w).trans hwrote.txcount

theorem Attempted.devId {late : Bool} {s t : State} (h : Attempted late s t) : t.devId = s.devId := by
  obtain ⟨w, q, hwrote, -, rfl⟩ := h
  exact (sendAll_devId _ w).trans hwrote.devId

theorem Attempted.transmitted {late : Bool} {s t : State} (h : Attempted late s t) : Transmitted 1 s t := by
  obtain ⟨p, q, hsent, -⟩ := h.sent
  exact ⟨h.txbuf, h.txcount, _, hsent, burstsOf_attemptFrames _ (Vector.length_toList) _ p q⟩

/-! ## An exchange -/

theorem transmitted_strobe (c : Byte) (s : State) : Transmitted 0 s (strobe c s) :=
  ⟨rfl, (BitVec.add_zero _).symm, [[c]], rfl, rfl⟩

theorem ReadBack.transmitted {n : Nat} {s t : State} (h : ReadBack n s t) : Transmitted 0 s t := by
  refine ⟨?_, h.txcount.trans (BitVec.add_zero _).symm, _, h.sent, ?_⟩
  · rw [ReadBack] at h
    rw [h]
    exact sendAll_txbuf _ s
  · simp [burstsOf]

theorem Unanswered.transmitted {n : Nat} {s t : State} (h : Unanswered n s t) : Transmitted n s t := by
  induction n generalizing s with
  | zero => exact h ▸ ⟨rfl, (BitVec.add_zero _).symm, [], rfl, rfl⟩
  | succ n ih =>
    obtain ⟨u, hatt, hrest⟩ := h
    have hstandby : Transmitted 0 u (strobe s.config.strobeStandby u) := transmitted_strobe _ u
    rw [Nat.add_comm n 1]
    exact hatt.transmitted.trans ((Nat.zero_add n) ▸ hstandby.trans (ih hrest))

/-- An exchange that ended well sent its packet once for each attempt, the answered one included (R264). -/
theorem Answered.transmitted {s t : State} (h : Answered s t) :
    ∃ n, 1 ≤ n ∧ n ≤ s.config.seqMaxAttempts ∧ Transmitted n s t := by
  obtain ⟨n, u, v, w, hn, hun, hatt, hread, rfl⟩ := h
  have hsent := (hun.transmitted.trans hatt.transmitted).trans hread.transmitted
  exact ⟨n + 1, Nat.le_add_left 1 n, hn, hsent.txbuf, hsent.txcount, hsent.sent⟩

/-! ## A silent vehicle -/

/-- Against a silent vehicle no exchange ends well (R268). -/
theorem Answered.not_modeBusy {s t : State} (h : Answered s t) : ¬ ModeIs true s t := by
  intro hbusy
  obtain ⟨n, u, v, w, -, hun, hatt, hread, rfl⟩ := h
  obtain ⟨p, q, hsent, hlate, -⟩ := hatt.sent
  have hpart := hbusy.part hun.moved.trace_prefix hsent.trace_prefix hread.sent.trace_prefix hun.moved.config
  exact Bool.false_ne_true (hlate hpart)

/-- The silent vehicle's first failing exchange is the first of all (R268). -/
theorem SeqFailsAt.eq_zero_of_modeBusy {n : Nat} {s t v w : State} (h : SeqFailsAt n s v w) (hbusy : ModeIs true s t)
    (ht : w.trace <+: t.trace) : n = 0 := by
  obtain ⟨u, hseq, hready, hun⟩ := h
  cases n with
  | zero => rfl
  | succ n =>
    obtain ⟨u', v', hseq', hready', hans⟩ := hseq
    have hbefore := hseq'.moved.trans hready'.moved
    have hafter := hready.moved.trans hun.moved
    exact absurd (hbusy.part hbefore.trace_prefix hans.moved.trace_prefix (hafter.trace_prefix.trans ht) hbefore.config)
      hans.not_modeBusy

theorem Unanswered.unique {n : Nat} {s t t' : State} (h : Unanswered n s t) (h' : Unanswered n s t') : t = t' :=
  congrArg Prod.snd ((exchange_of_unanswered_all h).symm.trans (exchange_of_unanswered_all h'))

/-- What `BIND_SEQ` leaves when an exchange fails (R266, R268). -/
theorem SeqFailsAt.bindSeq_eq {n : Nat} {s v w : State} (h : SeqFailsAt n (seqStart s) v w) (hn : n < 13) :
    bindSeq s = bindSeqFail w := by
  obtain ⟨u, hseq, -⟩ | ⟨m, hm, v', w', hfails, heq⟩ := bindSeq_cases s
  · exact absurd hseq (h.not_seqAnswered hn)
  · obtain hlt | rfl | hlt := Nat.lt_trichotomy n m
    · obtain ⟨u, hseq, -⟩ := hfails
      exact absurd hseq (h.not_seqAnswered hlt)
    · obtain ⟨u, hseq, hready, hun⟩ := h
      obtain ⟨u', hseq', hready', hun'⟩ := hfails
      obtain rfl := hseq.unique hseq'
      obtain rfl := hready.unique hready'
      rw [heq, hun.unique hun']
    · obtain ⟨u, hseq, -⟩ := h
      exact absurd hseq (hfails.not_seqAnswered hlt)

theorem seqPacket_congr {s t : State} (hconfig : t.config = s.config) (hchannel : t.channel = s.channel)
    (hsession : t.sessionId = s.sessionId) (n : Nat) : seqPacket t n = seqPacket s n := by
  simp only [seqPacket, hconfig, hchannel, hsession]

theorem Readied.txbuf_toList {n : Nat} {s t : State} (h : Readied n s t) : t.txbuf.toList = seqPacket s n := by
  obtain ⟨p, hp, rfl⟩ := h
  exact hp

/-- The packet of an exchange depends only on what the run keeps (R266). -/
theorem SeqAnswered.seqPacket_eq {n : Nat} {s t : State} (h : SeqAnswered n s t) (m : Nat) :
    seqPacket t m = seqPacket s m :=
  seqPacket_congr h.moved.config h.moved.channel h.moved.sessionId m

/-- The failing exchange sent its packet `SEQ_MAX_ATTEMPTS` times (R268). -/
theorem SeqFailsAt.transmitted {n : Nat} {s v w : State} (h : SeqFailsAt n s v w) :
    Transmitted s.config.seqMaxAttempts v w ∧ v.txbuf.toList = seqPacket s n := by
  obtain ⟨u, hseq, hready, hun⟩ := h
  exact ⟨hun.transmitted, hready.txbuf_toList.trans (hseq.seqPacket_eq n)⟩

theorem finalize_state (s : State) : (finalize s).state = 0x08 := by rw [finalize_eq]

theorem finalize_round (s : State) : (finalize s).round = s.round := by
  rw [finalize_eq]
  exact sendAll_round _ s

theorem finalize_txcount (s : State) : (finalize s).txcount = s.txcount := by
  rw [finalize_eq]
  exact sendAll_txcount _ s

theorem finalize_devId (s : State) : (finalize s).devId = s.devId := by
  rw [finalize_eq]
  exact sendAll_devId _ s

/-- `BIND_SEQ` ends in `BIND_FAILED` exactly when an exchange fails (R268). -/
theorem bindSeq_state_eq_failed_iff (s : State) :
    (bindSeq s).state = 0x0E ↔ ∃ n < 13, ∃ v w, SeqFailsAt n (seqStart s) v w := by
  refine ⟨fun hstate => ?_, fun ⟨n, hn, v, w, hfails⟩ => by rw [hfails.bindSeq_eq hn]; rfl⟩
  obtain ⟨u, -, heq⟩ | ⟨n, hn, v, w, hfails, -⟩ := bindSeq_cases s
  · rw [heq, finalize_state] at hstate
    exact absurd hstate (by decide)
  · exact ⟨n, hn, v, w, hfails⟩

/-- A silent vehicle leaves the first exchange unanswered (R268). -/
theorem seqFailsAt_zero_of_modeBusy {s : State} (hbusy : ModeIs true s (bindSeq s)) :
    ∃ v w, SeqFailsAt 0 (seqStart s) v w := by
  obtain ⟨u, ⟨u', v, hseq, hready, hans⟩, heq⟩ | ⟨n, -, v, w, hfails, heq⟩ := bindSeq_cases s
  · have hbefore := hseq.moved.trans hready.moved
    have hend : u.trace <+: (bindSeq s).trace := by
      rw [heq, finalize_eq]
      exact sendAll_prefix _ u
    exact absurd (hbusy.part hbefore.trace_prefix hans.moved.trace_prefix hend hbefore.config) hans.not_modeBusy
  · obtain rfl := hfails.eq_zero_of_modeBusy (t := bindSeq s) hbusy (by rw [heq]; exact List.prefix_rfl)
    exact ⟨v, w, hfails⟩

/-- Settles O49: the exchange by its two outcomes (`exchange_outcome`), the run by its first failing exchange
(`bindSeq_state_eq_failed_iff`), which for a silent vehicle is the first (`seqFailsAt_zero_of_modeBusy`). -/
theorem silentVehicleFailsTheSequentialBind : Obligations.SilentVehicleFailsTheSequentialBind := by
  refine ⟨fun s t r heq => ?_, fun s t ht => ?_, fun s t ht hbusy => ?_⟩
  · obtain ⟨u, hans, hu⟩ | ⟨u, hun, hu⟩ := exchange_outcome s <;> obtain ⟨rfl, rfl⟩ := Prod.mk.inj (hu.symm.trans heq)
    · obtain ⟨n, hmin, hmax, hsent⟩ := hans.transmitted
      exact ⟨fun _ => hans, nofun, n, hmin, hmax, nofun, hsent.txcount, hsent.bursts⟩
    · have hsent := hun.transmitted
      exact ⟨nofun, fun _ => hun, _, s.config.seqMaxAttempts_mem_range.1, le_rfl, fun _ => rfl, hsent.txcount, hsent.bursts⟩
  · obtain rfl : bindSeq s = t := Host.Outcome.next.inj ht
    refine ⟨bindSeq_state_eq_failed_iff s, fun hstate => ?_⟩
    obtain ⟨n, hn, v, w, hfails⟩ := (bindSeq_state_eq_failed_iff s).1 hstate
    obtain ⟨hsent, hpacket⟩ := hfails.transmitted
    have hround : w.round = BitVec.ofNat 8 n := hfails.round.trans (BitVec.zero_add _)
    rw [hfails.bindSeq_eq hn]
    exact ⟨rfl, n, hn, v, w, hfails, hround, hsent.txcount, hpacket ▸ hsent.bursts, rfl⟩
  · obtain rfl : bindSeq s = t := Host.Outcome.next.inj ht
    obtain ⟨v, w, hfails⟩ := seqFailsAt_zero_of_modeBusy hbusy
    obtain ⟨hsent, -⟩ := hfails.transmitted
    have hround : w.round = 0 := hfails.round.trans (BitVec.zero_add _)
    rw [hfails.bindSeq_eq (by decide)]
    obtain ⟨u, rfl, ⟨p, -, hv⟩, -⟩ := hfails
    have hframes : newFrames s (bindSeqFail w) = newFrames v w := by rw [hv]; rfl
    have htxcount : v.txcount = s.txcount := by rw [hv]; rfl
    refine ⟨rfl, rfl, hround, htxcount ▸ hsent.txcount, ?_⟩
    rw [hframes, countP_length_eq_length_bursts, hsent.bursts, List.length_replicate]
    rfl

end Sys2Proof.Machine
end

-- The sequential bind against a clear transceiver (43_bind.md R272): every exchange ends at once, so that its frames and
-- the places of its draws are fixed.
section

namespace Sys2Proof.Machine

/-! ## An exchange answered at once -/

/-- The frames of an exchange whose polls all end at their first read (R264). -/
def clearFrames (c : Config) (data : List Byte) (ch : Byte) : List (List Byte) :=
  attemptFrames c data ch (min 1 c.txPollMax) 1 ++ ([c.strobeRstRdptr] :: List.replicate 16 [0x45, c.dummyByte])

theorem bytes_attemptFrames (c : Config) (data : List Byte) (ch : Byte) (p q : Nat) :
    bytes (attemptFrames c data ch p q) = 6 + data.length + 2 * p + 2 * q := by
  simp only [attemptFrames, bytes_append, bytes_packetFrames, bytes_cons, bytes_replicate, length_pollFrame,
    List.length_singleton]
  omega

theorem bytes_clearFrames (c : Config) {data : List Byte} (hlen : data.length = 16) (ch : Byte) :
    bytes (clearFrames c data ch) = 57 + 2 * min 1 c.txPollMax := by
  simp only [clearFrames, bytes_append, bytes_attemptFrames, bytes_cons, bytes_replicate, hlen, List.length_cons,
    List.length_nil]
  omega

theorem quickExchange_eq_clearFrames (s : State) (n : Nat) :
    quickExchange s n = clearFrames s.config (seqPacket s n) s.channel := by
  simp only [quickExchange, clearFrames, attemptFrames, List.replicate_one, List.append_assoc, List.cons_append,
    List.nil_append]

/-- Against a clear transceiver an exchange ends well at its first attempt (R272). -/
theorem exchange_of_modeClear {k : Nat} {r : Exchange} {s t : State} (h : exchange (k + 1) s = (r, t))
    (hclear : ModeIs false s t) (hpolls : 1 ≤ s.config.seqListenPolls) :
    ∃ v w, Attempted false s v ∧ ReadBack 16 v w ∧ r = .ok ∧ t = countRound w := by
  obtain ⟨late, hatt, hr⟩ := attempt_spec s
  rcases hattempt : attempt s with ⟨poll, v⟩
  rw [hattempt] at hatt hr
  obtain ⟨p, q, hsent, -, hquick⟩ := hatt.sent
  cases late with
  | false =>
    obtain rfl : poll = .clear := hr
    obtain ⟨rfl, rfl⟩ := Prod.mk.inj ((exchange_clear hattempt).symm.trans h)
    exact ⟨v, _, hatt, readPacket_readBack 16 v, rfl, rfl⟩
  | true =>
    obtain rfl : poll = .timeout := hr
    have hrest := moved_exchange k (strobe s.config.strobeStandby v)
    rw [← exchange_timeout hattempt, h] at hrest
    have hv : v.trace <+: t.trace := List.IsPrefix.trans (List.prefix_append _ _) hrest.trace_prefix
    obtain ⟨-, -, hlate⟩ := hquick (hclear.part List.prefix_rfl hsent.trace_prefix hv rfl) hpolls
    cases hlate

/-- What an exchange answered at once sends, where its reply was drawn, and what it keeps (R272). -/
theorem Answered.of_modeClear {s t : State} (h : Answered s t) (hclear : ModeIs false s t)
    (hpolls : 1 ≤ s.config.seqListenPolls) :
    Sent (clearFrames s.config s.txbuf.toList s.channel) s t ∧ t.txcount = s.txcount + 1 ∧ t.devId = s.devId ∧
      ∀ j : Fin 16, t.rxbuf[j] = misoAt s (26 + 2 * min 1 s.config.txPollMax + 2 * j) := by
  obtain ⟨v, w, hatt, hread, -, rfl⟩ := exchange_of_modeClear (exchange_of_answered h) hclear hpolls
  obtain ⟨p, q, hsent, -, hquick⟩ := hatt.sent
  have hreads := hread.sent
  rw [hatt.moved.config] at hreads
  obtain ⟨rfl, rfl, -⟩ := hquick (hclear.part List.prefix_rfl hsent.trace_prefix hreads.trace_prefix rfl) hpolls
  refine ⟨hsent.trans hreads, hread.txcount.trans hatt.txcount, hread.devId.trans hatt.devId, fun j => ?_⟩
  have hdraw : w.rxbuf[j] = misoAt v (2 * j + 2) := by
    rw [ReadBack] at hread
    rw [hread]
    simp
  refine (hdraw.trans (hsent.misoAt_eq _)).trans (congrArg (misoAt s) ?_)
  rw [bytes_attemptFrames, Vector.length_toList]
  omega

/-! ## The run -/

/-- The draw that byte `j` of the level-3 reply is, in a run that starts at `s` (R272). -/
def idDraw (s : State) (j : Nat) : Byte := misoAt s (83 + 4 * min 1 s.config.txPollMax + 2 * j)

/-- The ID frame of a run that starts at `s`. -/
def idFrame (s : State) : List Byte := [0x06, idDraw s 2, idDraw s 3, idDraw s 4, idDraw s 5]

/-- The frames of exchange `n` with what stands before it (R266, R272). -/
def seqFrames (s : State) (n : Nat) : List (List Byte) :=
  (if n = 2 then [idFrame s] else []) ++ quickExchange s n

/-- What the first `n` exchanges leave against a clear transceiver. -/
structure ClearRun (n : Nat) (s t : State) : Prop where
  sent : Sent ((List.range n).flatMap (seqFrames s)) s t
  txcount : t.txcount = s.txcount + BitVec.ofNat 8 n
  reply : n = 2 → ∀ j : Fin 16, t.rxbuf[j] = idDraw s j
  devId : 3 ≤ n → t.devId = idDraw s 2 ++ idDraw s 3 ++ idDraw s 4 ++ idDraw s 5

theorem Readied.of_ne_two {n : Nat} {s t : State} (h : Readied n s t) (hn : n ≠ 2) :
    Sent [] s t ∧ t.txcount = s.txcount ∧ t.devId = s.devId := by
  obtain ⟨p, -, rfl⟩ := h
  rw [if_neg hn]
  exact ⟨rfl, rfl, rfl⟩

theorem Readied.of_two {s t : State} (h : Readied 2 s t) :
    Sent [[0x06, s.rxbuf[2], s.rxbuf[3], s.rxbuf[4], s.rxbuf[5]]] s t ∧ t.txcount = s.txcount ∧
      t.devId = s.rxbuf[2] ++ s.rxbuf[3] ++ s.rxbuf[4] ++ s.rxbuf[5] := by
  obtain ⟨p, -, rfl⟩ := h
  exact ⟨rfl, rfl, rfl⟩

/-- What stands before exchange `n` of a clear run. -/
theorem ClearRun.readied {n : Nat} {s t u : State} (h : ClearRun n s t) (hready : Readied n t u) :
    Sent (if n = 2 then [idFrame s] else []) t u ∧ u.txcount = t.txcount ∧
      (2 ≤ n → u.devId = idDraw s 2 ++ idDraw s 3 ++ idDraw s 4 ++ idDraw s 5) := by
  by_cases hn : n = 2
  · subst hn
    have hreply := h.reply rfl
    have h2 : t.rxbuf[2] = idDraw s 2 := hreply 2
    have h3 : t.rxbuf[3] = idDraw s 3 := hreply 3
    have h4 : t.rxbuf[4] = idDraw s 4 := hreply 4
    have h5 : t.rxbuf[5] = idDraw s 5 := hreply 5
    obtain ⟨hsent, htxcount, hdevId⟩ := hready.of_two
    rw [h2, h3, h4, h5] at hsent hdevId
    exact ⟨hsent, htxcount, fun _ => hdevId⟩
  · obtain ⟨hsent, htxcount, hdevId⟩ := hready.of_ne_two hn
    rw [if_neg hn]
    exact ⟨hsent, htxcount, fun hle => hdevId.trans (h.devId (by omega))⟩

theorem length_seqPacket (s : State) (n : Nat) : (seqPacket s n).length = 16 := by
  match n with
  | 0 | 1 | 2 => rfl
  | i + 3 =>
    rw [seqPacket, length_withCks, List.length_set]
    rfl

theorem bytes_seqFrames_zero (s : State) : bytes (seqFrames s 0) = 57 + 2 * min 1 s.config.txPollMax := by
  rw [seqFrames, if_neg (by decide), List.nil_append, quickExchange_eq_clearFrames,
    bytes_clearFrames _ (length_seqPacket s 0)]

theorem SeqAnswered.clearRun {n : Nat} {s t : State} (h : SeqAnswered n s t) (hclear : ModeIs false s t)
    (hpolls : 1 ≤ s.config.seqListenPolls) : ClearRun n s t := by
  induction n generalizing t with
  | zero => exact h ▸ ⟨rfl, (BitVec.add_zero _).symm, by simp, by simp⟩
  | succ n ih =>
    obtain ⟨u, v, hseq, hready, hans⟩ := h
    have hbefore := hseq.moved.trans hready.moved
    have hrun := ih hseq
      (hclear.part List.prefix_rfl hseq.moved.trace_prefix (hready.moved.trans hans.moved).trace_prefix rfl)
    have hclear' := hclear.part hbefore.trace_prefix hans.moved.trace_prefix List.prefix_rfl hbefore.config
    obtain ⟨hsent, htxcount, hdevId, hreply⟩ := hans.of_modeClear hclear' (hbefore.config ▸ hpolls)
    obtain ⟨hsentReady, htxcountReady, hdevIdReady⟩ := hrun.readied hready
    rw [hbefore.config, hbefore.channel, hready.txbuf_toList, hseq.seqPacket_eq, ← quickExchange_eq_clearFrames] at hsent
    refine ⟨?_, ?_, ?_, fun hle => hdevId.trans (hdevIdReady (by omega))⟩
    · rw [List.range_succ, List.flatMap_append, List.flatMap_singleton]
      exact hrun.sent.trans (hsentReady.trans hsent)
    · rw [htxcount, htxcountReady, hrun.txcount, BitVec.add_assoc, BitVec.ofNat_add]
      rfl
    · intro hn j
      obtain rfl : n = 1 := by omega
      have hfirst : bytes ((List.range 1).flatMap (seqFrames s)) = 57 + 2 * min 1 s.config.txPollMax := by
        simp [bytes_seqFrames_zero]
      rw [hreply, hsentReady.misoAt_eq, hrun.sent.misoAt_eq, hfirst, hbefore.config, idDraw, if_neg (by decide), bytes_nil]
      congr 1
      omega

/-- Against a clear transceiver all 13 exchanges end well (R272). -/
theorem bindSeq_of_modeClear {s : State} (hclear : ModeIs false s (bindSeq s)) (hpolls : 1 ≤ s.config.seqListenPolls) :
    ∃ u, SeqAnswered 13 (seqStart s) u ∧ ClearRun 13 (seqStart s) u ∧ bindSeq s = finalize u := by
  obtain ⟨u, hseq, heq⟩ | ⟨n, -, v, w, ⟨u, hseq, hready, hun⟩, heq⟩ := bindSeq_cases s
  · have hend : u.trace <+: (bindSeq s).trace := by
      rw [heq, finalize_eq]
      exact sendAll_prefix _ u
    have hpart : ModeIs false (seqStart s) u := hclear.part List.prefix_rfl hseq.moved.trace_prefix hend rfl
    exact ⟨u, hseq, hseq.clearRun hpart hpolls, heq⟩
  · have hbefore := hseq.moved.trans hready.moved
    have hconfig : v.config = s.config := hbefore.config
    have hpart : ModeIs false v w :=
      hclear.part hbefore.trace_prefix hun.moved.trace_prefix (by rw [heq]; exact List.prefix_rfl) hconfig
    obtain ⟨-, -, -, -, hr, -⟩ := exchange_of_modeClear (exchange_of_unanswered_all hun) hpart (hconfig ▸ hpolls)
    cases hr

/-! ## Its packets -/

theorem filterMap_headOf_quickExchange (s : State) (n : Nat) :
    (quickExchange s n).filterMap headOf = [0x05 :: (seqPacket s n).take 1] := by
  rw [quickExchange_eq_clearFrames, clearFrames, attemptFrames, List.filterMap_append, List.filterMap_append,
    List.filterMap_append, filterMap_headOf_reads, filterMap_headOf_packetFrames _ (length_seqPacket s n),
    filterMap_headOf_replicate _ _ (headOf_pollFrame _)]
  rfl

/-- The round number leaves the level in byte 0 alone (R9). -/
theorem seqPacket_round_take_one {s : State} (hindex : 1 ≤ s.config.seqByteIndex) (i : Nat) :
    (seqPacket s (i + 3)).take 1 = [9] := by
  obtain ⟨k, hk⟩ : ∃ k, s.config.seqByteIndex = k + 1 := ⟨s.config.seqByteIndex - 1, by omega⟩
  rw [seqPacket, hk]
  rfl

/-- The 13 exchanges with the ID frame among them, written out (R272). -/
theorem flatMap_seqFrames (s : State) :
    (List.range 13).flatMap (seqFrames s) =
      quickExchange s 0 ++ quickExchange s 1 ++ [idFrame s] ++ quickExchange s 2 ++
        (List.range 10).flatMap (fun i => quickExchange s (i + 3)) := by
  have hrange : List.range 13 = [0, 1, 2] ++ (List.range 10).map (· + 3) := rfl
  have hround (i : Nat) : seqFrames s (i + 3) = quickExchange s (i + 3) := by
    rw [seqFrames, if_neg (by omega), List.nil_append]
  rw [hrange, List.flatMap_append, List.flatMap_map]
  simp only [hround]
  simp [seqFrames]

/-- The transmissions of the 13 exchanges: levels 1, 3 and 1, then ten of level 9, with the ID frame before the third. -/
theorem filterMap_headOf_seqFrames {s : State} (hindex : 1 ≤ s.config.seqByteIndex) :
    ((List.range 13).flatMap (seqFrames s)).filterMap headOf =
      [[0x05, 1], [0x05, 3], [0x06], [0x05, 1]] ++ List.replicate 10 [0x05, 9] := by
  have hrounds : ((List.range 10).flatMap fun i => quickExchange s (i + 3)).filterMap headOf =
      List.replicate 10 [0x05, 9] := by
    simp only [List.filterMap_flatMap, filterMap_headOf_quickExchange, seqPacket_round_take_one hindex]
    rfl
  rw [flatMap_seqFrames]
  simp only [List.filterMap_append, filterMap_headOf_quickExchange, hrounds]
  rfl

/-- Settles O48: the run is that of `bindSeq_of_modeClear`, and its frames are written out by `flatMap_seqFrames`. -/
theorem sequentialBindTakesThirteenTransmissions : Obligations.SequentialBindTakesThirteenTransmissions := by
  intro s t hw ht hclear
  obtain rfl : bindSeq s = t := Host.Outcome.next.inj ht
  obtain ⟨-, ⟨hindex, -⟩, -, -, -, ⟨hpolls, -⟩, -⟩ := Config.wf_spec hw
  obtain ⟨u, hseq, hrun, heq⟩ := bindSeq_of_modeClear hclear hpolls
  have hround : u.round = 13 := hseq.round.trans (BitVec.zero_add _)
  have hfinal : Sent [[s.config.codeReg, s.config.codeFecValue], [s.config.strobeStandby]] u (bindSeq s) := by
    rw [heq, finalize_eq, hseq.moved.config]
    rfl
  have hframes : (newFrames s (bindSeq s)).map Frame.mosi = (List.range 13).flatMap (seqFrames s) ++
      [[s.config.codeReg, s.config.codeFecValue], [s.config.strobeStandby]] := (hrun.sent.trans hfinal).newFrames_mosi
  refine ⟨by rw [heq, finalize_state], by rw [heq, finalize_round, hround],
    by rw [heq, finalize_txcount, hrun.txcount]; rfl, ?_,
    idDraw s 2, idDraw s 3, idDraw s 4, idDraw s 5, rfl, by rw [heq, finalize_devId, hrun.devId (by decide)]; rfl, ?_⟩
  · rw [hframes, List.filterMap_append]
    exact congrArg (· ++ []) (filterMap_headOf_seqFrames hindex)
  · rw [hframes, flatMap_seqFrames]
    rfl

end Sys2Proof.Machine
end

-- The data phase (44_data_scheduler.md R290 to R297): what one tick of it leaves, and five of them in a row.
section

namespace Sys2Proof.Machine

/-! ## One tick -/

/-- A request to bind again is all that the data arm sees to (R291, R292). -/
theorem tickData_of_request (k : DataStep) {s : State} (h : s.rebindReq = true) : tickData k s = rebind s := if_pos h

theorem tickData_of_cycled (k : DataStep) {s : State} (h : s.rebindReq = false) (hmode : s.config.dataMode = .cycled) :
    tickData k s = tickCycled k s := by
  simp only [tickData, h, hmode, Bool.false_eq_true, if_false]

theorem tickData_of_fixed (k : DataStep) {s : State} (h : s.rebindReq = false) (hmode : s.config.dataMode = .fixed) :
    tickData k s = tickFixed s := by
  simp only [tickData, h, hmode, Bool.false_eq_true, if_false]

/-- The power write is one frame, at `DATA_1` (R293). -/
theorem applyPower_eq (k : DataStep) (s : State) :
    applyPower k s = if k = .data1 then sendAll [[s.config.powerReg, s.txpower]] s else s := by
  rw [applyPower, regWrite, or_writeFlag]
  rfl

theorem moved_applyPower (k : DataStep) (s : State) : Moved s (applyPower k s) := by
  unfold applyPower
  split
  · exact moved_regWrite_own s.config.powerReg s.txpower (by simp [Config.ownAddresses])
  · exact Moved.refl s

theorem applyPower_txcount (k : DataStep) (s : State) : (applyPower k s).txcount = s.txcount := by
  unfold applyPower
  split
  · exact regWrite_txcount _ _ s
  · rfl

/-- The bytes of a flight-control packet are functions of the host's registers and the parameters (R195). -/
theorem Moved.dataBytes_eq {s t : State} (h : Moved s t) : dataBytes t = dataBytes s := by
  simp only [dataBytes, h.config, h.flags, h.throttle, h.rudder, h.elevator, h.aileron]

theorem Moved.stepChannel_eq {s t : State} (h : Moved s t) (k : DataStep) : stepChannel k t = stepChannel k s := by
  simp only [stepChannel, h.channel]

/-- `s` with the power written at `DATA_1` and the data packet in `TXBUF`, ready to transmit (R292). -/
def readyToFly (k : DataStep) (s : State) : State := buildData (applyPower k s)

theorem moved_readyToFly (k : DataStep) (s : State) : Moved s (readyToFly k s) :=
  (moved_applyPower k s).trans (moved_buildData _)

theorem readyToFly_txbuf_toList (k : DataStep) (s : State) :
    (readyToFly k s).txbuf.toList = withCks (dataBytes s) := by
  rw [readyToFly, buildData_txbuf_toList, (moved_applyPower k s).dataBytes_eq]

theorem readyToFly_txcount (k : DataStep) (s : State) : (readyToFly k s).txcount = s.txcount := applyPower_txcount k s

/-- Everything a tick of the cycled strategy can do (R292). -/
theorem tickCycled_spec (k : DataStep) (s : State) :
    ∃ t, Moved s t ∧ Wrote 16 (stepChannel k s) (readyToFly k s) t ∧
      tickCycled k s = { t with state := (DataStep.succ k).code, delayUs := s.config.dlyData } := by
  have hready := moved_readyToFly k s
  generalize ht : writePacket 16 (stepChannel k s) (readyToFly k s) = t
  have hmoved : Moved s t := ht ▸ hready.trans (moved_writePacket 16 _ _ (by decide))
  have harm : tickCycled k s = goto (DataStep.succ k).code t.config.dlyData t := by
    rw [← ht, ← hready.stepChannel_eq k]
    rfl
  refine ⟨t, hmoved, ht ▸ writePacket_wrote 16 _ _ le_rfl, ?_⟩
  rw [← hmoved.config]
  exact harm

/-- Everything a tick of the fixed strategy can do (R294). -/
theorem tickFixed_spec (s : State) :
    ∃ t, Wrote 16 s.channel (buildData s) t ∧
      tickFixed s = { t with state := 0x08, delayUs := s.config.dlyData } := by
  generalize ht : writePacket 16 s.channel (buildData s) = t
  have hconfig : t.config = s.config := ht ▸ (moved_writePacket 16 s.channel _ (by decide)).config
  have harm : tickFixed s = goto 0x08 t.config.dlyData t := by
    rw [← ht]
    rfl
  refine ⟨t, ht ▸ writePacket_wrote 16 s.channel _ le_rfl, ?_⟩
  rw [← hconfig]
  exact harm

/-- Settles O50: each row of the list gives a data step, its two state bytes and its channel; the arm then goes by
`REBIND_REQ` (`tickData_of_request`) and the strategy (`tickCycled_spec`, `tickFixed_spec`). -/
theorem dataArmFollowsItsTable : Obligations.DataArmFollowsItsTable := by
  intro s k before after ch hrow
  obtain ⟨rfl, rfl, rfl⟩ : before = k.code ∧ after = (DataStep.succ k).code ∧ ch = stepChannel k s := by
    simp only [List.mem_cons, List.not_mem_nil, or_false, Prod.mk.injEq] at hrow
    obtain ⟨rfl, rfl, rfl, rfl⟩ | ⟨rfl, rfl, rfl, rfl⟩ | ⟨rfl, rfl, rfl, rfl⟩ | ⟨rfl, rfl, rfl, rfl⟩ |
      ⟨rfl, rfl, rfl, rfl⟩ := hrow <;> exact ⟨rfl, rfl, rfl⟩
  refine ⟨exec_tick_eq_exec_instr (.data k), fun hreq => congrArg Host.Outcome.next (tickData_of_request k hreq),
    fun hreq hmode => ?_, fun hreq hmode => ?_⟩
  · obtain ⟨t, -, hwrote, heq⟩ := tickCycled_spec k s
    refine ⟨_, t, readyToFly_txbuf_toList k s, ?_,
      congrArg Host.Outcome.next ((tickData_of_cycled k hreq hmode).trans heq)⟩
    rw [← applyPower_eq]
    exact hwrote
  · obtain ⟨t, hwrote, heq⟩ := tickFixed_spec s
    exact ⟨_, t, buildData_txbuf_toList s, hwrote,
      congrArg Host.Outcome.next ((tickData_of_fixed k hreq hmode).trans heq)⟩

/-! ## A cycle -/

/-- The frames of a tick of the cycled strategy before its polls: the power write at `DATA_1`, and the packet (R292). -/
def cycledFrames (k : DataStep) (s : State) : List (List Byte) :=
  (if k = .data1 then [[s.config.powerReg, s.txpower]] else []) ++
    packetFrames s.config (withCks (dataBytes s)) (stepChannel k s)

theorem sent_applyPower (k : DataStep) (s : State) :
    Sent (if k = .data1 then [[s.config.powerReg, s.txpower]] else []) s (applyPower k s) := by
  rw [applyPower_eq]
  split <;> rfl

/-- What a tick of the cycled strategy reads besides `STATE`. -/
def cycleInputs (s : State) : Bool × Config × Byte × Byte × List Byte :=
  (s.rebindReq, s.config, s.channel, s.txpower, dataBytes s)

theorem cycleInputs_eq_iff {s t : State} : cycleInputs t = cycleInputs s ↔
    t.rebindReq = s.rebindReq ∧ t.config = s.config ∧ t.channel = s.channel ∧ t.txpower = s.txpower ∧
      dataBytes t = dataBytes s := by
  simp only [cycleInputs, Prod.mk.injEq]

theorem Moved.cycleInputs_eq {s t : State} (h : Moved s t) : cycleInputs t = cycleInputs s :=
  cycleInputs_eq_iff.2 ⟨h.rebindReq, h.config, h.channel, h.txpower, h.dataBytes_eq⟩

/-- From `s` to `t` the block sent `fs` and counted `n` transmissions, and the next tick of the cycle reads what it read
in `s`. -/
structure Flew (n : Byte) (fs : List (List Byte)) (s t : State) : Prop where
  inputs : cycleInputs t = cycleInputs s
  txcount : t.txcount = s.txcount + n
  sent : Sent fs s t

theorem Flew.refl (s : State) : Flew 0 [] s s := ⟨rfl, (BitVec.add_zero _).symm, rfl⟩

theorem Flew.trans {m n : Byte} {fs gs : List (List Byte)} {s t u : State} (h : Flew m fs s t) (h' : Flew n gs t u) :
    Flew (m + n) (fs ++ gs) s u where
  inputs := h'.inputs.trans h.inputs
  txcount := by rw [h'.txcount, h.txcount, BitVec.add_assoc]
  sent := h.sent.trans h'.sent

theorem Flew.cycledFrames_eq {n : Byte} {fs : List (List Byte)} {s t : State} (h : Flew n fs s t) (k : DataStep) :
    cycledFrames k t = cycledFrames k s := by
  obtain ⟨-, hconfig, hchannel, htxpower, hbytes⟩ := cycleInputs_eq_iff.1 h.inputs
  simp only [cycledFrames, stepChannel, hconfig, hchannel, htxpower, hbytes]

/-- One tick of the cycled strategy: one packet, and the polls of its completion (R292). -/
theorem flew_tickCycled (k : DataStep) (s : State) :
    ∃ p, Flew 1 (cycledFrames k s ++ List.replicate p (pollFrame s.config)) s (tickCycled k s) := by
  obtain ⟨t, hmoved, hwrote, heq⟩ := tickCycled_spec k s
  obtain ⟨p, hpacket, -⟩ := hwrote.sent
  have hlen : (withCks (dataBytes s)).length = 16 := by simp [dataBytes]
  rw [readyToFly_txbuf_toList, (moved_readyToFly k s).config, List.take_of_length_le hlen.le] at hpacket
  have hready : Sent (if k = .data1 then [[s.config.powerReg, s.txpower]] else []) s (readyToFly k s) :=
    sent_applyPower k s
  have hsent := hready.trans hpacket
  rw [← List.append_assoc] at hsent
  rw [heq]
  exact ⟨p, hmoved.cycleInputs_eq, by rw [hwrote.txcount, readyToFly_txcount], hsent⟩

/-- A flight goes on by one tick, which sends what the same step would have sent at its start. -/
theorem Flew.tick {n : Byte} {fs : List (List Byte)} {s t : State} (h : Flew n fs s t) {k : DataStep}
    (ht : t.state = k.code) (hreq : s.rebindReq = false) (hmode : s.config.dataMode = .cycled) :
    ∃ (u : State) (p : Nat), exec .tick t = .next u ∧ u.state = (DataStep.succ k).code ∧
      Flew (n + 1) (fs ++ (cycledFrames k s ++ List.replicate p (pollFrame s.config))) s u := by
  obtain ⟨hreq', hconfig, -⟩ := cycleInputs_eq_iff.1 h.inputs
  obtain ⟨p, hflew⟩ := flew_tickCycled k t
  rw [h.cycledFrames_eq, hconfig] at hflew
  have harm : tickData k t = tickCycled k t := tickData_of_cycled k (hreq'.trans hreq) (by rw [hconfig, hmode])
  exact ⟨tickCycled k t, p, (exec_tick ht (selectArm_code (.data k))).trans (congrArg Host.Outcome.next harm), rfl,
    h.trans hflew⟩

/-- Settles O51: five ticks in a row, each of which finds the state byte of the next step (`Flew.tick`). -/
theorem dataCycleHasFiveTicks : Obligations.DataCycleHasFiveTicks := by
  intro s hs hreq hmode
  obtain ⟨a, p1, htick1, ha, hflew⟩ := (Flew.refl s).tick (k := .data1) hs hreq hmode
  obtain ⟨b, p2, htick2, hb, hflew⟩ := hflew.tick (k := .data2) ha hreq hmode
  obtain ⟨c, p3, htick3, hc, hflew⟩ := hflew.tick (k := .data3) hb hreq hmode
  obtain ⟨d, p4, htick4, hd, hflew⟩ := hflew.tick (k := .data4) hc hreq hmode
  obtain ⟨t, p5, htick5, ht, hflew⟩ := hflew.tick (k := .data5) hd hreq hmode
  refine ⟨a, b, c, d, t, p1, p2, p3, p4, p5, ?_, ht, hflew.txcount, ?_⟩
  · rw [ticks_succ htick1, ticks_succ htick2, ticks_succ htick3, ticks_succ htick4, ticks_succ htick5]
    rfl
  · rw [hflew.sent.newFrames_mosi]
    simp [cycledFrames, stepChannel, secondary, Param.secondaryOffset]

/-! ## The end of the data phase -/

theorem mem_dataCodes_iff_exists_code (b : Byte) :
    b ∈ ([0x08, 0x09, 0x0A, 0x0B, 0x0C] : List Byte) ↔ ∃ k : DataStep, b = k.code := by
  constructor
  · simp only [List.mem_cons, List.not_mem_nil, or_false]
    rintro (rfl | rfl | rfl | rfl | rfl)
    · exact ⟨.data1, rfl⟩
    · exact ⟨.data2, rfl⟩
    · exact ⟨.data3, rfl⟩
    · exact ⟨.data4, rfl⟩
    · exact ⟨.data5, rfl⟩
  · rintro ⟨k, rfl⟩
    cases k <;> decide

/-- Without a request a data tick goes on to a data state, in either strategy (R292, R294). -/
theorem tickData_state_of_no_request (k : DataStep) {s : State} (h : s.rebindReq = false) :
    ∃ j : DataStep, (tickData k s).state = j.code := by
  cases hmode : s.config.dataMode with
  | fixed => exact ⟨.data1, by rw [tickData_of_fixed k h hmode]; rfl⟩
  | cycled => exact ⟨DataStep.succ k, by rw [tickData_of_cycled k h hmode]; rfl⟩

/-- Settles O52: with the request the arm goes to `BIND_1` (`tickData_of_request`), without it to a data state
(`tickData_state_of_no_request`). -/
theorem dataPhaseEndsOnlyByRequest : Obligations.DataPhaseEndsOnlyByRequest := by
  intro s t hs htick
  obtain ⟨k, hk⟩ := (mem_dataCodes_iff_exists_code s.state).1 hs
  obtain rfl : tickData k s = t := Host.Outcome.next.inj ((exec_tick hk (selectArm_code (.data k))).symm.trans htick)
  cases hreq : s.rebindReq with
  | true =>
    rw [tickData_of_request k hreq]
    exact iff_of_true (show BindTx.bind1.code ∉ _ by decide) rfl
  | false =>
    have hstay := (mem_dataCodes_iff_exists_code _).2 (tickData_state_of_no_request k hreq)
    exact iff_of_false (not_not.2 hstay) Bool.false_ne_true

end Sys2Proof.Machine
end

-- Command errors (60_exceptions.md R311, R312, R316, R317): an error is raised alone.
section

namespace Sys2Proof.Machine

/-- Settles O39: the refused arm raises `BAD_STATE`, and `TICK` in either stopped state is that arm
(`exec_tick_eq_exec_instr`). -/
theorem tickOutsideASessionIsBadState : Obligations.TickOutsideASessionIsBadState := by
  intro s k
  refine ⟨rfl, ?_⟩
  rintro (hidle | hfailed)
  · exact exec_tick_eq_exec_instr (.stopped .idle) hidle
  · exact exec_tick_eq_exec_instr (.stopped .bindFailed) hfailed

/-- The error codes of R312 are 1 to 5. -/
theorem ErrorCode.code_range (e : ErrorCode) : 1 ≤ e.code.toNat ∧ e.code.toNat ≤ 5 := by cases e <;> decide

/-- Settles O56: of the ways an instruction can go, only the error writes `ERR` or `ERRCODE`, and it writes nothing else. -/
theorem errorsArePrecise : Obligations.ErrorsArePrecise := by
  intro i s t h
  cases exec_did h with
  | error e ht => exact .inr ⟨e.code, e.code_range.1, e.code_range.2, ht⟩
  | moved hm _ => exact .inl ⟨hm.err, hm.errcode⟩
  | read _ u v hm _ ht => subst ht; exact .inl ⟨hm.err, hm.errcode⟩
  | session hses _ =>
    obtain ⟨u, st, r, d, b, q, hm, -, -, -, rfl⟩ := hses
    exact .inl ⟨hm.err, hm.errcode⟩
  | scanned _ u sums hm _ _ ht => subst ht; exact .inl ⟨hm.err, hm.errcode⟩
  | aborted _ ht => subst ht; exact .inl ⟨rfl, rfl⟩
  | bound _ u n hm _ _ ht => obtain ⟨-, rfl⟩ | ⟨-, -, rfl⟩ := ht <;> exact .inl ⟨hm.err, hm.errcode⟩

end Sys2Proof.Machine
end

-- Legal states (10_state.md R38, R39, R42, R45, R56; 60_exceptions.md R315, R330, R331): every step keeps them, none stops.
section

namespace Sys2Proof

/-- Every opcode is read as an instruction of the command space (R111, R113). -/
theorem decodeCommand_space (op : Byte) : (decodeCommand op).space = .command := by
  unfold decodeCommand
  split <;> rfl

namespace Machine

/-! ## What a host access keeps -/

/-- A byte the host may store is none that a legal state is about. -/
theorem Legal.storeByte {s : State} (h : Legal s) (v : Byte) (x : HostByte) : Legal (storeByte v s x) := by
  cases x <;> exact { h with }

/-- An acknowledgement clears `ERRCODE` with `ERR` (R322). -/
theorem Legal.ackStatus {s : State} (h : Legal s) (v : Byte) : Legal (ackStatus v s) := by
  refine { h with errcode := ?_ }
  rw [ackStatus_eq]
  cases v.getLsbD 0 with
  | false => exact h.errcode
  | true => exact ⟨Nat.zero_le 5, iff_of_true rfl rfl⟩

theorem Legal.memWrite {s : State} (h : Legal s) (a v : Byte) : Legal (memWrite a v s) := by
  unfold Machine.memWrite
  split
  case h_1 | h_4 => exact h.storeByte v _
  case h_2 | h_3 => exact h
  case h_5 => exact h.ackStatus v
  case h_6 => exact { h with }

/-! ## What an instruction keeps -/

/-- A raised error sets `ERR` with a code of its own (R311, R312). -/
theorem Legal.cmdError {s : State} (h : Legal s) (e : ErrorCode) : Legal (cmdError e s) :=
  have hcode : e.code ≠ 0 := fun h0 => absurd (h0 ▸ e.code_range.1) (by decide)
  { h with errcode := ⟨e.code_range.2, iff_of_false hcode Bool.false_ne_true.symm⟩ }

/-- Frames, packet builds and reads into `RXBUF` keep all but `ROUND`, which an exchange counts. -/
theorem Legal.moved {s t : State} (h : Legal s) (hm : Moved s t) (hround : t.round.toNat ≤ 13) : Legal t where
  config := hm.config ▸ h.config
  state := hm.state ▸ h.state
  errcode := by rw [hm.errcode, hm.err]; exact h.errcode
  lastStrobe := by
    rw [hm.config]
    exact hm.lastStrobe.elim (fun hkept => hkept ▸ h.lastStrobe) .inr
  pins := hm.receiving h.pins
  round := hround
  bestIdx := hm.bestIdx ▸ h.bestIdx
  rssiSum := by rw [hm.config, hm.rssiSum]; exact h.rssiSum
  trace := by
    obtain ⟨fs, htrace, hlegal⟩ := hm.trace
    rw [hm.config, htrace]
    exact List.forall_mem_append.2 ⟨h.trace, hlegal h.config⟩

/-- The session's registers are free but for `STATE`. -/
theorem Legal.setSession {s : State} (h : Legal s) {st : Byte} (hst : st ∈ reachableStates) (r : Byte) (d : Half)
    (b q : Bool) : Legal (setSession st r d b q s) :=
  { h with state := hst }

/-- A sequential bind starts with `ROUND` at 0 (R266). -/
theorem Legal.bindSeqStart {s : State} (h : Legal s) : Legal (bindSeqStart s) :=
  { h with round := Nat.zero_le 13 }

/-- A sequential bind that gave up is in `BIND_FAILED` (R266). -/
theorem Legal.bindSeqFail {s : State} (h : Legal s) : Legal (bindSeqFail s) :=
  h.setSession (st := Stopped.bindFailed.code) (by decide) s.restarts s.delayUs true s.rebindReq

/-- A scan stores the index of a channel, and sums that are in range (R222, R224). -/
theorem Legal.setScan {s : State} (h : Legal s) {sums : Vector Half 12}
    (hsums : ∀ i : Fin 12, sums[i].toNat ≤ 255 * s.config.rssiSamples) (best : Fin 12) (ch : Byte) :
    Legal (setScan sums (BitVec.ofNat 8 best.val) ch s) :=
  have hbest : (BitVec.ofNat 8 best.val).toNat ≤ 11 := (Nat.mod_le _ _).trans (Nat.le_of_lt_succ best.isLt)
  { h with bestIdx := hbest, rssiSum := hsums }

/-- Every way an instruction can go keeps a legal state legal: what a bus sequence leaves is legal (`Legal.moved`), and
so is each write an instruction adds to it. -/
theorem Did.legal {i : Instr} {s t : State} (h : Did i s t) (hs : Legal s) : Legal t := by
  have hmoved {u : State} (hm : Moved s u) (hr : u.round = s.round) : Legal u := hs.moved hm (hr ▸ hs.round)
  cases h with
  | error e ht => exact ht ▸ hs.cmdError e
  | moved hm hr => exact hmoved hm hr
  | read _ u v hm hr ht => exact ht ▸ { hmoved hm hr with }
  | session h _ =>
    obtain ⟨u, st, r, d, b, q, hm, hr, hst, -, rfl⟩ := h
    exact (hmoved hm hr).setSession hst r d b q
  | scanned _ u sums hm hr hsum ht =>
    have hsums (i : Fin 12) : sums[i].toNat ≤ 255 * u.config.rssiSamples := by
      rw [hsum, hm.config, BitVec.toNat_ofNat]
      exact (Nat.mod_le _ _).trans (channelSum_le s i.val)
    exact ht ▸ (hmoved hm hr).setScan hsums _ _
  | aborted _ ht => exact ht ▸ hs.setSession (st := 0x0F) (by decide) s.restarts 0 s.bfail false
  | bound _ u n hm _ hr ht =>
    have hn : n ≤ 13 := by
      obtain ⟨hlt, -⟩ | ⟨heq, -⟩ := ht
      · exact hlt.le
      · exact heq.le
    have hu : Legal u := hs.bindSeqStart.moved hm (hr ▸ (Nat.mod_le _ _).trans hn)
    obtain ⟨-, rfl⟩ | ⟨-, -, rfl⟩ := ht
    · exact hu.bindSeqFail
    · exact hu.setSession (by decide) _ _ _ _

/-- Settles O59, by the kinds of step (`step_cases`) and, for a command, the ways an instruction can go (`Did.legal`). -/
theorem stepKeepsLegal : Obligations.StepKeepsLegal := by
  intro s t hs
  refine step_cases (P := fun o => o = .next t → Legal t) ?hbad ?hwait ?hread ?hwrite ?hcmd
  case hbad => rintro - ⟨⟩
  case hwait => rintro - - ⟨⟩; exact hs
  case hread => rintro a q - - ⟨⟩; exact { hs with }
  case hwrite =>
    rintro a v q - - - ⟨⟩
    have htaken : Legal { s with hostQueue := q } := { hs with }
    exact htaken.memWrite a v
  case hcmd =>
    intro v q _ _ h
    have hstored : Legal { s with hostQueue := q, cmd := v } := { hs with }
    exact (exec_did h).legal hstored

/-! ## No stop -/

/-- A command that checks its operand goes on or raises an error: either way it answers a next state (R159, R313 to
R315). -/
theorem exists_ite_eq_next (p : Prop) [Decidable p] (t u : State) :
    ∃ v, (if p then .next t else .next u : Host.Outcome State Fault Refusal) = .next v :=
  ⟨if p then t else u, (apply_ite _ p t u).symm⟩

/-- A command answers a next state wherever `STATE` is reachable: only `TICK` could stop, on a state byte that selects
no arm (R331). -/
theorem exec_command_next {i : Instr} (hi : i.space = .command) {s : State} (hreach : s.state ∈ reachableStates) :
    ∃ t, exec i s = .next t := by
  cases i with
  | tick =>
    obtain ⟨arm, harm⟩ := Option.isSome_iff_exists.1 ((selectArm_isSome s.state).2 hreach)
    exact ⟨_, exec_tick rfl harm⟩
  | regRead | regWrite | strobe | fifoWrite | fifoRead => exact exists_ite_eq_next _ _ _
  | nop | setId | scan | buildBind | buildData | bindStart | bindSeq | abort | illegalOpcode => exact ⟨_, rfl⟩
  | _ => cases hi

/-- Settles O60: legal parameters pass the step's guard, and a command runs in a state whose `STATE` is reachable
(`exec_command_next`). -/
theorem legalStatesNeverStop : Obligations.LegalStatesNeverStop := by
  intro s hs
  refine step_cases (P := fun o => ∃ t, o = .next t) ?hbad ?hwait ?hread ?hwrite ?hcmd
  case hbad => exact fun hbad => absurd hs.config (Bool.eq_false_iff.1 hbad)
  case hwait => exact fun _ _ => ⟨_, rfl⟩
  case hread => exact fun _ _ _ _ => ⟨_, rfl⟩
  case hwrite => exact fun _ _ _ _ _ _ => ⟨_, rfl⟩
  case hcmd => exact fun v q _ _ => exec_command_next (decodeCommand_space v) hs.state

end Machine

end Sys2Proof
end

-- Reset and the parameters (70_reset_and_hazards.md R351 to R353); the commands that leave the session alone (R373).
section

namespace Sys2Proof.Machine

/-! ## Reset -/

/-- What each byte of the map holds after reset (R351). -/
def resetByte : HostByte → Byte
  | .state => 0x0F
  | .pins => 0x02
  | .rudder | .elevator | .aileron => 0x80
  | _ => 0x00

theorem readByte_reset (x : HostByte) : readByte State.reset x = resetByte x := by
  cases x with
  | sessionId i | devId i | rssiHi i | rssiLo i => revert i; decide
  | txbuf i | rxbuf i => exact Vector.getElem_replicate i.isLt
  | _ => rfl

/-- The five addresses of R351 whose registers are not cleared. -/
theorem resetByte_hostByte : ∀ a : Byte, resetByte (hostByte a) =
    if a = 0x06 then 0x0F
    else if a = 0x09 then 0x02
    else if a = 0x19 ∨ a = 0x1A ∨ a = 0x1B then 0x80
    else 0x00 := by decide

/-- Settles O13: each byte of the map after reset (`readByte_reset`), looked up at each address. -/
theorem resetRegisterValues : Obligations.ResetRegisterValues :=
  ⟨fun a => (readByte_reset (hostByte a)).trans (resetByte_hostByte a), rfl, rfl, rfl⟩

theorem rssiSum_reset (i : Fin 12) : State.reset.rssiSum[i] = 0 := Vector.getElem_replicate i.isLt

/-- Settles O58: the parameters are this hardware's, `STATE` is `IDLE`, no error is raised, nothing is counted or sent. -/
theorem resetIsLegal : Obligations.ResetIsLegal where
  config := Config.hardware_wf
  state := by decide
  errcode := ⟨Nat.zero_le 5, iff_of_true rfl rfl⟩
  lastStrobe := .inl rfl
  pins := ⟨rfl, rfl⟩
  round := Nat.zero_le 13
  bestIdx := Nat.zero_le 11
  rssiSum i := by rw [rssiSum_reset]; exact Nat.zero_le _
  trace := List.forall_mem_nil _

/-- Settles O12: of the kinds of step (`step_cases`), all but the wait need broken parameters or an access
to come. -/
theorem blockWaitsForTheHost : Obligations.BlockWaitsForTheHost := by
  intro s hw hq
  refine step_cases (P := fun o => o = .next s) ?hbad ?hwait ?hread ?hwrite ?hcmd
  case hbad => exact fun hbad => absurd hw (Bool.eq_false_iff.1 hbad)
  case hwait => exact fun _ _ => rfl
  case hread => exact fun _ _ _ hcons => nomatch hq.symm.trans hcons
  case hwrite => exact fun _ _ _ _ hcons _ => nomatch hq.symm.trans hcons
  case hcmd => exact fun _ _ _ hcons => nomatch hq.symm.trans hcons

/-! ## The parameters -/

theorem memWrite_config (a v : Byte) (s : State) : (memWrite a v s).config = s.config := by
  obtain ⟨hconfig, -⟩ := outOfHostReach_eq_iff.1 (outOfHostReach_memWrite a v s)
  exact hconfig

theorem exec_config {i : Instr} {s t : State} (h : exec i s = .next t) : t.config = s.config := by
  obtain ⟨-, -, -, -, -, -, -, -, -, -, hconfig, -, -⟩ := noInstructionWritesTheHostsRegisters i s t h
  exact hconfig

theorem step_config {s t : State} (h : step s = .next t) : t.config = s.config := by
  revert h
  refine step_cases (P := fun o => o = .next t → t.config = s.config) ?hbad ?hwait ?hread ?hwrite ?hcmd
  case hbad => rintro - ⟨⟩
  case hwait => rintro - - ⟨⟩; rfl
  case hread => rintro a q - - ⟨⟩; rfl
  case hwrite => rintro a v q - - - ⟨⟩; exact memWrite_config a v { s with hostQueue := q }
  case hcmd => exact fun v q _ _ h => (exec_config h :)

/-- No byte of the map shows a parameter. -/
theorem readByte_setConfig (s : State) (c : Config) (x : HostByte) :
    readByte { s with config := c } x = readByte s x := by cases x <;> rfl

/-- Settles O15: no kind of step writes the parameters (`step_config`), and no byte of the map shows them
(`readByte_setConfig`). -/
theorem parametersAreFixed : Obligations.ParametersAreFixed :=
  ⟨fun _ _ h => step_config h, rfl, fun s c a => readByte_setConfig s c (hostByte a)⟩

/-! ## The session's registers -/

/-- The registers of the state machine: `STATE`, `RESTARTS`, `DELAY_US`, `REBIND_REQ` and `BFAIL`. -/
def sessionRegisters (s : State) : Byte × Byte × Half × Bool × Bool :=
  (s.state, s.restarts, s.delayUs, s.rebindReq, s.bfail)

theorem sessionRegisters_eq_iff {s t : State} : sessionRegisters t = sessionRegisters s ↔
    t.state = s.state ∧ t.restarts = s.restarts ∧ t.delayUs = s.delayUs ∧ t.rebindReq = s.rebindReq ∧
      t.bfail = s.bfail := by
  simp only [sessionRegisters, Prod.mk.injEq]

theorem Moved.sessionRegisters {s t : State} (h : Moved s t) : sessionRegisters t = sessionRegisters s :=
  sessionRegisters_eq_iff.2 ⟨h.state, h.restarts, h.delayUs, h.rebindReq, h.bfail⟩

/-- Settles O55: of the ways an instruction can go (`exec_did`), the three that write the session's registers are not
open to these ten commands. -/
theorem onlySessionCommandsMoveTheStateMachine : Obligations.OnlySessionCommandsMoveTheStateMachine := by
  intro i s t hmem h
  refine sessionRegisters_eq_iff.1 ?_
  cases exec_did h with
  | error e ht => subst ht; rfl
  | moved hm _ => exact hm.sessionRegisters
  | read _ u v hm _ ht => subst ht; exact hm.sessionRegisters
  | session _ hother => exact absurd hmem hother
  | scanned _ u sums hm _ _ ht => subst ht; exact hm.sessionRegisters
  | aborted hi _ => subst hi; exact absurd hmem (by decide)
  | bound hi => subst hi; exact absurd hmem (by decide)

end Sys2Proof.Machine
end
